-- ==== Sys2Proof/Word.lean ====
section
/-!
DEFINITION. The word types of the block. Only the codes that spec/ gives as bit patterns are bit vectors
(30_encoding.md R82, R84, R86). Every other register and port value is, in the words of 00_scope.md section 5,
an unsigned natural number of a stated width whose arithmetic is exact and never wraps, so it is a `Nat` whose
width is a clause of the model's invariant (Sys2Proof/Safety.lean).
-/
namespace Sys2Proof

/-- A code of the FSM state register (format STATE): 3 bits, 30_encoding.md R82. -/
abbrev StateCode := BitVec 3

/-- A host command {rst, read_req} (format HOST): 2 bits, `rst` the high one, 30_encoding.md R84. -/
abbrev HostCode := BitVec 2

/-- A code of the `status` output (format STATUS): 2 bits, 30_encoding.md R86. -/
abbrev StatusCode := BitVec 2

end Sys2Proof
end

