-- ==== Sys2Proof/Syntax.lean ====
section
/-!
DEFINITION. The rows of spec/opcode_table.json as one inductive, and the named codes that the rows and the
registers use: FSM states (30_encoding.md R82, R83) and status codes (R86).
-/
namespace Sys2Proof

/-- The three formats of the rows of opcode_table.json (30_encoding.md, introduction). -/
inductive Format where
  | host
  | state
  | frame
  deriving DecidableEq, Repr

/-- What the 3-bit FSM state register can hold: the six states of R82 and the two reserved codes of R83. -/
inductive FsmState where
  | idle
  | syncWaitHigh
  | syncMeasure
  | bitWaitHighEnd
  | bitWaitLowEnd
  | decode
  | reserved6
  | reserved7
  deriving DecidableEq, Repr

/-- What the 2-bit status register can hold: every code of R86 is used. -/
inductive Status where
  | none
  | ok
  | invalid
  | stall
  deriving DecidableEq, Repr

/-- One constructor per row of opcode_table.json. The operands of a FRAME row are the letters of its encoding:
`value` (v, F[19:0]) and, where the row ignores it, `sign` (s, F[20]). RESET's operand is the ignored bit q. -/
inductive Instr where
  /-- RESET, HOST `1q` (70_reset_and_hazards.md R260). -/
  | reset (readReq : Bool)
  /-- READ, HOST `01` (44_host_interface.md R201, R202). -/
  | read
  /-- NONE, HOST `00` (44_host_interface.md R203). -/
  | noCommand
  /-- IDLE, STATE `000` (44_host_interface.md R200). -/
  | idle
  /-- SYNC_WAIT_HIGH, STATE `001` (41_frame_synchronizer.md R130). -/
  | syncWaitHigh
  /-- SYNC_MEASURE, STATE `010` (41_frame_synchronizer.md R131). -/
  | syncMeasure
  /-- BIT_WAIT_HIGH_END, STATE `011` (42_bit_sampler.md R150). -/
  | bitWaitHighEnd
  /-- BIT_WAIT_LOW_END, STATE `100` (42_bit_sampler.md R151). -/
  | bitWaitLowEnd
  /-- DECODE, STATE `101` (43_frame_decoder.md R170). -/
  | decode
  /-- RESERVED_6, STATE `110` (30_encoding.md R83). -/
  | reserved6
  /-- RESERVED_7, STATE `111` (30_encoding.md R83). -/
  | reserved7
  /-- VALID_POS, FRAME `1000v…` (43_frame_decoder.md R176). -/
  | validPos (value : Nat)
  /-- VALID_NEG, FRAME `1001v…` (43_frame_decoder.md R177). -/
  | validNeg (value : Nat)
  /-- INVALID_C0, FRAME `000sv…` (43_frame_decoder.md R184). -/
  | invalidC0 (sign : Bool) (value : Nat)
  /-- INVALID_C1, FRAME `001sv…` (43_frame_decoder.md R185). -/
  | invalidC1 (sign : Bool) (value : Nat)
  /-- INVALID_C2, FRAME `010sv…` (43_frame_decoder.md R186). -/
  | invalidC2 (sign : Bool) (value : Nat)
  /-- INVALID_C3, FRAME `011sv…` (43_frame_decoder.md R187). -/
  | invalidC3 (sign : Bool) (value : Nat)
  /-- INVALID_C5, FRAME `101sv…` (43_frame_decoder.md R188). -/
  | invalidC5 (sign : Bool) (value : Nat)
  /-- INVALID_C6, FRAME `110sv…` (43_frame_decoder.md R189). -/
  | invalidC6 (sign : Bool) (value : Nat)
  /-- INVALID_C7, FRAME `111sv…` (43_frame_decoder.md R190). -/
  | invalidC7 (sign : Bool) (value : Nat)
  deriving DecidableEq, Repr

end Sys2Proof
end

