-- ==== Sys2Proof/Config.lean ====
section
/-!
DEFINITION. The elaboration parameters of one instance (00_scope.md R8 to R20), the input ports (10_state.md
R30), the ways elaboration can refuse an instance (60_exceptions.md R233), and the two free values: what the
environment drives, and the level a changing pin is sampled at.
-/
namespace Sys2Proof

/-- The elaboration parameters. A field with a default has the spec's default; `cyclesPerUs` (K) and
`scaleFactor` (S) have none (00_scope.md R15, R17), so every `Params` names them. -/
structure Params where
  /-- FW, FRAME_BITS (R8). -/
  frameBits : Nat := 24
  /-- VW, VALUE_BITS (R9). -/
  valueBits : Nat := 20
  /-- SW, SIGN_BITS, fixed at 1 (R10). -/
  signBits : Nat := 1
  /-- CW, CHECK_BITS (R11). -/
  checkBits : Nat := 3
  /-- CE, CHECK_EXPECTED (R12). -/
  checkExpected : Nat := 4
  /-- GAP_THRESHOLD_US (R14). -/
  gapThresholdUs : Nat := 500
  /-- K, CYCLES_PER_US, open (R15). -/
  cyclesPerUs : Nat
  /-- GT where the instance sets it directly (R15). -/
  gapThresholdDirect : Option Nat := Option.none
  /-- S, SCALE_FACTOR, open (R17). -/
  scaleFactor : Nat
  /-- SCW, SCALE_WIDTH (R18). -/
  scaleWidth : Nat := 32
  /-- NS, SYNC_STAGES (R16). -/
  syncStages : Nat := 2
  /-- SB, SYNC_BITS (R19). -/
  syncBits : Nat := 0
  /-- TO, STALL_TIMEOUT_CYCLES; 0 disables the timeout (R20). -/
  stallTimeout : Nat := 0
  deriving DecidableEq, Repr

/-- Why elaboration refuses an instance: one constructor per check of 60_exceptions.md R233 that a natural
number can fail (check 9 holds of every natural number). -/
inductive ConfigError where
  /-- Check 1: VW + SW + CW is not FW. -/
  | layoutSum
  /-- Check 2: SW is not 1. -/
  | signWidth
  /-- Check 3: VW or CW is 0. -/
  | fieldWidth
  /-- Check 4: CE does not fit CW bits. -/
  | checkExpectedRange
  /-- Check 5: SCW is 0, or S is 0 or does not fit SCW bits. -/
  | scaleFactorRange
  /-- Check 6: SB is neither 0 nor 1. -/
  | syncBitsRange
  /-- Check 7: NS is 0. -/
  | syncStagesRange
  /-- Check 8: GT is derived from K and K is 0. -/
  | clockRate
  deriving DecidableEq, Repr

/-- The two lines of the caliper (10_state.md R30). -/
inductive Line where
  | clock
  | data
  deriving DecidableEq, Repr

/-- What a line's pin does at the sampling edge that ends a cycle: it is at a level, or it changes there
(40_edge_monitor.md R114). -/
inductive LineLevel where
  | low
  | high
  | changing
  deriving DecidableEq, Repr, Inhabited

/-- The input ports at the edge that ends one cycle (10_state.md R30). -/
structure Pins where
  rst : Bool
  readReq : Bool
  calClk : LineLevel
  calData : LineLevel
  deriving DecidableEq, Repr, Inhabited

/-- FREE VALUE (log 5). The level the first synchronizer stage takes when the line's pin changes at the
sampling edge ending the cycle of that number: either level, drawn anew at each such edge
(40_edge_monitor.md R114; 93_implementation_defined.md I-4). -/
opaque Config.edgeLevel : Line → Nat → Bool

/-- FREE VALUE (log 4). What the host and the caliper drive in a cycle for which no port values are pending:
the spec constrains neither (20_memory.md R70, R73). -/
opaque Config.environment : Nat → Pins

end Sys2Proof
end

