-- ==== Sys2Proof/WellFormed.lean ====
section
/-!
DEFINITION. Which instructions an encoding exists for: the value field of a FRAME row is VALUE_BITS = 20 bits
of the default layout (30_encoding.md R80, R88), so a value of 2^20 or more has no frame.
-/
namespace Sys2Proof

/-- The operand fits the 20-bit value field of the FRAME rows (00_scope.md R9). -/
abbrev valueFits (value : Nat) : Bool := decide (value < 1048576)

/-- Every operand fits its field. -/
def Instr.wellFormed : Instr → Bool
  | .reset _ => true
  | .read => true
  | .noCommand => true
  | .idle => true
  | .syncWaitHigh => true
  | .syncMeasure => true
  | .bitWaitHighEnd => true
  | .bitWaitLowEnd => true
  | .decode => true
  | .reserved6 => true
  | .reserved7 => true
  | .validPos v => valueFits v
  | .validNeg v => valueFits v
  | .invalidC0 _ v => valueFits v
  | .invalidC1 _ v => valueFits v
  | .invalidC2 _ v => valueFits v
  | .invalidC3 _ v => valueFits v
  | .invalidC5 _ v => valueFits v
  | .invalidC6 _ v => valueFits v
  | .invalidC7 _ v => valueFits v

end Sys2Proof
end

