-- ==== Sys2Proof/Decode.lean ====
section
/-!
DEFINITION. The encodings of 30_encoding.md in both directions: the codes of states, host commands and status,
the decoder of each format, total and refusing by name, and after it the encoder. A word is a natural number
with bit 0 least significant (00_scope.md section 5), as spec/opcode_table.json numbers it; the block has no
bytes and so no byte order (20_memory.md R65).
-/
namespace Sys2Proof

/-- `w[lo + width - 1 : lo]` of 00_scope.md section 5: `width` bits of `w` from bit `lo`, as an unsigned number. -/
def bitSlice (w lo width : Nat) : Nat := w / 2 ^ lo % 2 ^ width

/-- One bit as an unsigned number. -/
def bitValue (b : Bool) : Nat := if b then 1 else 0

/-- The code of an FSM state (30_encoding.md R82, R83). -/
def stateCode : FsmState → StateCode
  | .idle => 0b000
  | .syncWaitHigh => 0b001
  | .syncMeasure => 0b010
  | .bitWaitHighEnd => 0b011
  | .bitWaitLowEnd => 0b100
  | .decode => 0b101
  | .reserved6 => 0b110
  | .reserved7 => 0b111

/-- The FSM state that a number below 8 is the code of (30_encoding.md R82, R83). -/
def stateOfCode : Nat → Option FsmState
  | 0 => some .idle
  | 1 => some .syncWaitHigh
  | 2 => some .syncMeasure
  | 3 => some .bitWaitHighEnd
  | 4 => some .bitWaitLowEnd
  | 5 => some .decode
  | 6 => some .reserved6
  | 7 => some .reserved7
  | _ => Option.none

/-- The code of a status (30_encoding.md R86). -/
def statusCode : Status → StatusCode
  | .none => 0b00
  | .ok => 0b01
  | .invalid => 0b10
  | .stall => 0b11

/-- The host command {rst, read_req} (30_encoding.md R84). -/
def hostCode (rst readReq : Bool) : HostCode := BitVec.ofNat 2 (2 * bitValue rst + bitValue readReq)

/-- Why a word is no row of the table. -/
inductive DecodeError where
  /-- A host command has 2 bits (30_encoding.md R84). -/
  | notAHostCommand
  /-- A state code has 3 bits (30_encoding.md R82). -/
  | notAStateCode
  /-- A frame of the default layout has 24 bits (30_encoding.md R90). -/
  | notAFrame
  deriving DecidableEq, Repr

/-- The HOST row of {rst, read_req}: RESET wins over READ whatever `read_req` is (30_encoding.md R84). -/
def hostRow (rst readReq : Bool) : Instr :=
  if rst then .reset readReq else if readReq then .read else .noCommand

/-- The STATE row of an FSM state (30_encoding.md R82, R83). -/
def stateRow : FsmState → Instr
  | .idle => .idle
  | .syncWaitHigh => .syncWaitHigh
  | .syncMeasure => .syncMeasure
  | .bitWaitHighEnd => .bitWaitHighEnd
  | .bitWaitLowEnd => .bitWaitLowEnd
  | .decode => .decode
  | .reserved6 => .reserved6
  | .reserved7 => .reserved7

/-- Decodes a HOST word. -/
def decodeHost (w : Nat) : Except DecodeError Instr :=
  if w < 4 then .ok (hostRow (w.testBit 1) (w.testBit 0)) else .error .notAHostCommand

/-- Decodes a STATE word. -/
def decodeState (w : Nat) : Except DecodeError Instr :=
  match stateOfCode w with
  | some st => .ok (stateRow st)
  | Option.none => .error .notAStateCode

/-- Decodes a FRAME word of the default layout by its CHECK and SIGN fields (30_encoding.md R88). -/
def decodeFrame (w : Nat) : Except DecodeError Instr :=
  let value := bitSlice w 0 20
  let sign := w.testBit 20
  match w / 2097152 with
  | 0 => .ok (.invalidC0 sign value)
  | 1 => .ok (.invalidC1 sign value)
  | 2 => .ok (.invalidC2 sign value)
  | 3 => .ok (.invalidC3 sign value)
  | 4 => .ok (if sign then .validNeg value else .validPos value)
  | 5 => .ok (.invalidC5 sign value)
  | 6 => .ok (.invalidC6 sign value)
  | 7 => .ok (.invalidC7 sign value)
  | _ => .error .notAFrame

/-- Decodes a word of a format. -/
def decode (f : Format) (w : Nat) : Except DecodeError Instr :=
  match f with
  | .host => decodeHost w
  | .state => decodeState w
  | .frame => decodeFrame w

/-- A frame word from its fields (30_encoding.md R80): VALUE in bits [0, vw), SIGN at bit vw, CHECK from bit
vw + 1. -/
def frameWord (vw check : Nat) (sign : Bool) (value : Nat) : Nat :=
  value + bitValue sign * 2 ^ vw + check * 2 ^ (vw + 1)

/-- The format of a row. -/
def formatOf : Instr → Format
  | .reset _ => .host
  | .read => .host
  | .noCommand => .host
  | .idle => .state
  | .syncWaitHigh => .state
  | .syncMeasure => .state
  | .bitWaitHighEnd => .state
  | .bitWaitLowEnd => .state
  | .decode => .state
  | .reserved6 => .state
  | .reserved7 => .state
  | .validPos _ => .frame
  | .validNeg _ => .frame
  | .invalidC0 _ _ => .frame
  | .invalidC1 _ _ => .frame
  | .invalidC2 _ _ => .frame
  | .invalidC3 _ _ => .frame
  | .invalidC5 _ _ => .frame
  | .invalidC6 _ _ => .frame
  | .invalidC7 _ _ => .frame

/-- The word of an instruction, from the encodings of opcode_table.json. -/
def encode : Instr → Nat
  | .reset q => (hostCode true q).toNat
  | .read => (hostCode false true).toNat
  | .noCommand => (hostCode false false).toNat
  | .idle => (stateCode .idle).toNat
  | .syncWaitHigh => (stateCode .syncWaitHigh).toNat
  | .syncMeasure => (stateCode .syncMeasure).toNat
  | .bitWaitHighEnd => (stateCode .bitWaitHighEnd).toNat
  | .bitWaitLowEnd => (stateCode .bitWaitLowEnd).toNat
  | .decode => (stateCode .decode).toNat
  | .reserved6 => (stateCode .reserved6).toNat
  | .reserved7 => (stateCode .reserved7).toNat
  | .validPos v => frameWord 20 4 false v
  | .validNeg v => frameWord 20 4 true v
  | .invalidC0 s v => frameWord 20 0 s v
  | .invalidC1 s v => frameWord 20 1 s v
  | .invalidC2 s v => frameWord 20 2 s v
  | .invalidC3 s v => frameWord 20 3 s v
  | .invalidC5 s v => frameWord 20 5 s v
  | .invalidC6 s v => frameWord 20 6 s v
  | .invalidC7 s v => frameWord 20 7 s v

/-- The format that a width in bits tells. The table's widths are 2, 3 and 24 bits; counted in whole bytes HOST
and STATE both have 8, and such a word is read as a state code, the block's counterpart of an opcode
(30_encoding.md, introduction). DESIGN CHOICE, log 9. -/
def formatOfBits (nbits : Nat) : Option Format :=
  if nbits = 2 then some .host
  else if 3 ≤ nbits ∧ nbits ≤ 8 then some .state
  else if nbits = 24 then some .frame
  else Option.none

/-- The row that the decoder reads from the word `w` of a row of `nbits` bits. -/
def decodeTableWord (nbits w : Nat) : Option Instr :=
  match formatOfBits nbits with
  | some f =>
    match decode f w with
    | .ok i => some i
    | .error _ => Option.none
  | Option.none => Option.none

end Sys2Proof
end

