-- ==== Sys2Proof/Machine/State.lean ====
section
/-!
DEFINITION. The state of one instance as plain data: every register of 10_state.md R49, and the parameters,
pending port values and cycle number that the host's `step : State → …` leaves no other place for (log 1).
-/
namespace Sys2Proof.Machine

/-- The five result registers, written together and never apart (10_state.md R40, 20_memory.md R68). -/
structure Result where
  /-- `res_status`. -/
  status : Status
  /-- `res_sign`. -/
  sign : Bool
  /-- `res_mag`, VW bits. -/
  magnitude : Nat
  /-- `res_quot`, VW bits. -/
  quotient : Nat
  /-- `res_rem`, SCW bits. -/
  remainder : Nat
  deriving DecidableEq, Repr

/-- The complete state (10_state.md R49). -/
structure State where
  /-- The elaboration parameters, which no step changes (00_scope.md R22; log 1). -/
  params : Params
  /-- `state`, the FSM state register (R31). -/
  state : FsmState
  /-- `bitIndex`, the index of the next frame bit to be written (R33). -/
  bitIndex : Nat
  /-- `frame` as a word: bit i is f[i] (R34). -/
  frame : Nat
  /-- `gapCount` (R35). -/
  gapCount : Nat
  /-- `timeoutCount` (R36). -/
  timeoutCount : Nat
  /-- `clkSync[0 .. NS-1]`, stage 0 first (R37). -/
  clkSync : List Bool
  /-- `dataSync[0 .. NS-1]`, stage 0 first (R37). -/
  dataSync : List Bool
  /-- `done_r` (R38). -/
  done : Bool
  /-- The result registers (R40). -/
  result : Result
  /-- The port values of this cycle and of the cycles to come, this cycle's first. The model's own (log 4). -/
  inputs : List Pins
  /-- The number of this cycle, the argument of the free values. The model's own (log 5). -/
  cycle : Nat
  deriving DecidableEq, Repr

/-- Why the machine stops with a fault. -/
inductive Fault where
  /-- `ModelFault(ReservedState)`: the FSM state register holds code 6 or 7. Raised by RESERVED_6, RESERVED_7 and
  every step from such a state. Safe: no rule enters these codes (30_encoding.md R83; log 6). -/
  | reservedState
  deriving DecidableEq, Repr

/-- Why there is no meaning. -/
inductive Refusal where
  /-- An arm of exec that has no meaning yet. Safe: nothing is claimed of it. -/
  | notModelled (mnemonic : String)
  /-- `ConfigError(reason)`: the parameters are refused at elaboration, so no instance exists and nothing steps.
  Raised by `step` and `elaborate`. Safe: the spec has no such machine (60_exceptions.md R233; log 11). -/
  | configError (reason : ConfigError)
  deriving DecidableEq, Repr

/-- The result registers after reset: no result yet (10_state.md R40). -/
def noResult : Result := { status := .none, sign := false, magnitude := 0, quotient := 0, remainder := 0 }

/-- The reset state of an instance (10_state.md reset-value table; 70_reset_and_hazards.md R260) with nothing
driven yet. The synchronizer stages have no reset value; 0 is DESIGN CHOICE, log 3. -/
def State.resetOf (p : Params) : State where
  params := p
  state := .idle
  bitIndex := 0
  frame := 0
  gapCount := 0
  timeoutCount := 0
  clkSync := List.replicate p.syncStages false
  dataSync := List.replicate p.syncStages false
  done := false
  result := noResult
  inputs := []
  cycle := 0

/-- The instance that `State.reset` is: the spec's defaults, with K = 1 and S = 100 where the spec gives none.
DESIGN CHOICE, log 2. -/
def defaultParams : Params := { cyclesPerUs := 1, scaleFactor := 100 }

/-- The machine right after reset. -/
def State.reset : State := State.resetOf defaultParams

end Sys2Proof.Machine
end

