-- ==== Sys2Proof/Machine/Operands.lean ====
section
/-!
DEFINITION. What a cycle reads: the ports (10_state.md R30), the EdgeMonitor's two queries (40_edge_monitor.md
R110, R111), the gap threshold (00_scope.md R15), the fields of a frame (43_frame_decoder.md R171 to R173), its
class (30_encoding.md R88) and the scaler (43_frame_decoder.md R179).
-/
namespace Sys2Proof.Machine

/-- The port values sampled at the edge that ends this cycle; a free value where none are pending (log 4). -/
def pinsNow (s : State) : Pins :=
  match s.inputs with
  | p :: _ => p
  | [] => Config.environment s.cycle

/-- The level that the first synchronizer stage takes: the pin's level, or either level where the pin changes at
the edge (40_edge_monitor.md R112, R114; log 5). -/
def sampled (line : Line) (level : LineLevel) (cycle : Nat) : Bool :=
  match level with
  | .low => false
  | .high => true
  | .changing => Config.edgeLevel line cycle

/-- `in.cal_clk` as sampled at the edge that ends this cycle. -/
def clkPin (s : State) : Bool := sampled .clock (pinsNow s).calClk s.cycle

/-- `in.cal_data` as sampled at the edge that ends this cycle. -/
def dataPin (s : State) : Bool := sampled .data (pinsNow s).calData s.cycle

/-- CLOCK_QUERY: `c = s.clkSync[NS-1]` (40_edge_monitor.md R110). -/
def clockLevel (s : State) : Bool := s.clkSync.getD (s.params.syncStages - 1) false

/-- DATA_QUERY: `d = s.dataSync[NS-1]` (40_edge_monitor.md R111). -/
def dataLevel (s : State) : Bool := s.dataSync.getD (s.params.syncStages - 1) false

/-- GT: given directly, or GAP_THRESHOLD_US · K (00_scope.md R15). -/
def gapThreshold (p : Params) : Nat :=
  match p.gapThresholdDirect with
  | some gt => gt
  | Option.none => p.gapThresholdUs * p.cyclesPerUs

/-- CHECK_EXTRACT: `F[VW+CW : VW+1]` (43_frame_decoder.md R171). -/
def checkField (p : Params) (frame : Nat) : Nat := bitSlice frame (p.valueBits + 1) p.checkBits

/-- VALUE_EXTRACT: `F[VW-1 : 0]` (43_frame_decoder.md R172). -/
def valueField (p : Params) (frame : Nat) : Nat := bitSlice frame 0 p.valueBits

/-- SIGN_EXTRACT: `F[VW]` (43_frame_decoder.md R173). -/
def signField (p : Params) (frame : Nat) : Bool := frame.testBit p.valueBits

/-- The class of a frame in any layout (30_encoding.md R88). -/
inductive FrameClass where
  | valid (sign : Bool) (magnitude : Nat)
  | invalid (check : Nat)
  deriving DecidableEq, Repr

/-- Every frame word falls into exactly one class (30_encoding.md R88, R89). -/
def frameClass (p : Params) (frame : Nat) : FrameClass :=
  if checkField p frame = p.checkExpected then .valid (signField p frame) (valueField p frame)
  else .invalid (checkField p frame)

/-- `mag div S` (43_frame_decoder.md R179). -/
def scaledQuotient (p : Params) (magnitude : Nat) : Nat := magnitude / p.scaleFactor

/-- `mag mod S` (43_frame_decoder.md R179). -/
def scaledRemainder (p : Params) (magnitude : Nat) : Nat := magnitude % p.scaleFactor

/-- The layout of opcode_table.json's FRAME rows: FW = 24, VW = 20, SW = 1, CW = 3, CE = 4 (30_encoding.md,
introduction; 00_scope.md R8 to R12). -/
abbrev hasDefaultLayout (p : Params) : Bool :=
  decide (p.frameBits = 24 ∧ p.valueBits = 20 ∧ p.signBits = 1 ∧ p.checkBits = 3 ∧ p.checkExpected = 4)

/-- The four states in which the block waits on the lines: codes 1 to 4 (30_encoding.md R82). -/
def isActive : FsmState → Bool
  | .idle => false
  | .syncWaitHigh => true
  | .syncMeasure => true
  | .bitWaitHighEnd => true
  | .bitWaitLowEnd => true
  | .decode => false
  | .reserved6 => false
  | .reserved7 => false

/-- The state register holds a reserved code (30_encoding.md R83). -/
def isReserved : FsmState → Bool
  | .idle => false
  | .syncWaitHigh => false
  | .syncMeasure => false
  | .bitWaitHighEnd => false
  | .bitWaitLowEnd => false
  | .decode => false
  | .reserved6 => true
  | .reserved7 => true

end Sys2Proof.Machine
end

