-- ==== Sys2Proof/Machine/Ops.lean ====
section
/-!
DEFINITION. The named operations that cycles are made of. Each reads the state at the start of the cycle and
writes registers at its end (00_scope.md section 5); none touches the parameters, and only `endCycle` touches the
synchronizer stages and the ports. The result update `deliver` stands where other hardware takes an exception:
the block has no trap entry and no return from one (60_exceptions.md R237, R238).
-/
namespace Sys2Proof.Machine

/-- `x[i] <- v`: bit i of a word becomes v, every other bit keeps its value (00_scope.md section 5). -/
def writeBit (word i : Nat) (v : Bool) : Nat := if word.testBit i = v then word else word ^^^ 2 ^ i

/-- `x[0] <- pin; x[j] <- s.x[j-1]`: one shift of a synchronizer of `stages` stages (40_edge_monitor.md R112). -/
def shiftStages (stages : Nat) (pin : Bool) (x : List Bool) : List Bool := (pin :: x).take stages

/-- SYNC_SHIFT and the end of the cycle: both synchronizers take the ports sampled at this edge, whatever else the
cycle did (40_edge_monitor.md R112), and the next cycle begins. -/
def endCycle (s : State) : State :=
  { s with
    clkSync := shiftStages s.params.syncStages (clkPin s) s.clkSync
    dataSync := shiftStages s.params.syncStages (dataPin s) s.dataSync
    inputs := s.inputs.tail
    cycle := s.cycle + 1 }

/-- The default of `done_r` in a cycle without reset: 0 (10_state.md R38). -/
def clearDone (s : State) : State := { s with done := false }

/-- The registers that reset writes, each with its reset value (70_reset_and_hazards.md R260). -/
def resetRegisters (s : State) : State :=
  { s with
    state := .idle
    bitIndex := 0
    frame := 0
    gapCount := 0
    timeoutCount := 0
    done := false
    result := noResult }

/-- Acceptance of READ in IDLE (44_host_interface.md R201). -/
def accept (s : State) : State :=
  { s with
    state := .syncWaitHigh
    bitIndex := 0
    frame := 0
    gapCount := 0
    timeoutCount := 0 }

/-- The result update: the five result registers and `done_r` in one cycle, and the FSM back in IDLE
(20_memory.md R68; 60_exceptions.md R237). -/
def deliver (r : Result) (s : State) : State :=
  { s with
    result := r
    done := true
    state := .idle }

/-- What DECODE loads for a frame that passed the check (43_frame_decoder.md R175). -/
def okResult (p : Params) (sign : Bool) (magnitude : Nat) : Result where
  status := .ok
  sign := sign
  magnitude := magnitude
  quotient := scaledQuotient p magnitude
  remainder := scaledRemainder p magnitude

/-- What DECODE loads for a frame that did not pass it (43_frame_decoder.md R174). -/
def invalidResult : Result := { status := .invalid, sign := false, magnitude := 0, quotient := 0, remainder := 0 }

/-- What the stall timeout loads (60_exceptions.md R232). -/
def stallResult : Result := { status := .stall, sign := false, magnitude := 0, quotient := 0, remainder := 0 }

/-- What DECODE loads for a frame, in any layout (43_frame_decoder.md R170). -/
def decodeResult (p : Params) (frame : Nat) : Result :=
  if checkField p frame = p.checkExpected then okResult p (signField p frame) (valueField p frame)
  else invalidResult

/-- `TO > 0` and `s.timeoutCount + 1 == TO`: the timeout fires in this active cycle (60_exceptions.md R232). -/
def timeoutFires (s : State) : Bool :=
  decide (0 < s.params.stallTimeout ∧ s.timeoutCount + 1 = s.params.stallTimeout)

/-- The stall timeout's own writes (60_exceptions.md R232); `frame` and `bitIndex` are left as they were. -/
def stall (s : State) : State := deliver stallResult { s with gapCount := 0, timeoutCount := 0 }

/-- `timeoutCount` after an active cycle that the timeout does not end: never counted when TO = 0
(10_state.md R36). -/
def countedActive (stallTimeout timeoutCount : Nat) : Nat :=
  if stallTimeout = 0 then timeoutCount else timeoutCount + 1

/-- An active cycle that the timeout does not end is counted, when there is a timeout (60_exceptions.md R232). -/
def countActive (s : State) : State :=
  { s with timeoutCount := countedActive s.params.stallTimeout s.timeoutCount }

/-- An active cycle: the timeout check runs first and, when it fires, replaces the state rule
(60_exceptions.md R232, R236). -/
def activeCycle (rule : State → State) (s : State) : State :=
  if timeoutFires s then stall s else rule (countActive (clearDone s))

/-- The first high cycle of an interval (41_frame_synchronizer.md R130). -/
def startMeasure (s : State) : State := { s with gapCount := 1, state := .syncMeasure }

/-- One more high cycle: the count saturates at GT + 1 (41_frame_synchronizer.md R131, R139). -/
def countHigh (s : State) : State :=
  { s with gapCount := min (s.gapCount + 1) (gapThreshold s.params + 1) }

/-- `frame` where sync is declared: with SB = 1 bit 0 takes the negation of the data level
(41_frame_synchronizer.md R133, R136). -/
def syncFrame (syncBits frame : Nat) (d : Bool) : Nat := if syncBits = 1 then writeBit frame 0 (!d) else frame

/-- `bitIndex` where sync is declared: 1 with SB = 1, and not written with SB = 0 (41_frame_synchronizer.md R133,
R136). -/
def syncIndex (syncBits bitIndex : Nat) : Nat := if syncBits = 1 then 1 else bitIndex

/-- Sync declared: with SB = 0 (41_frame_synchronizer.md R133), or with SB = 1, where the synchronizer also takes
f[0] (R136). -/
def declareSync (s : State) : State :=
  { s with
    frame := syncFrame s.params.syncBits s.frame (dataLevel s)
    bitIndex := syncIndex s.params.syncBits s.bitIndex
    gapCount := 0
    state := .bitWaitLowEnd }

/-- A high interval that was no start gap: the search continues (41_frame_synchronizer.md R134). -/
def rejectInterval (s : State) : State := { s with gapCount := 0, state := .syncWaitHigh }

/-- The clock pulse is over (42_bit_sampler.md R150). -/
def endPulse (s : State) : State := { s with state := .bitWaitLowEnd }

/-- Where the sample point of bit `bitIndex` goes: to DECODE when the frame is full (42_bit_sampler.md R152, R153). -/
def stateAfterSample (frameBits bitIndex : Nat) : FsmState :=
  if bitIndex + 1 = frameBits then .decode else .bitWaitHighEnd

/-- The sample point: bit `bitIndex` takes the negation of the data level (42_bit_sampler.md R152). -/
def samplePoint (s : State) : State :=
  { s with
    frame := writeBit s.frame s.bitIndex (!dataLevel s)
    bitIndex := s.bitIndex + 1
    state := stateAfterSample s.params.frameBits s.bitIndex }

end Sys2Proof.Machine
end

