-- ==== Sys2Proof/Machine/BitSampler.lean ====
section
/-!
DEFINITION. The BitSampler's two states (42_bit_sampler.md).
-/
namespace Sys2Proof.Machine

/-- The state rule of BIT_WAIT_HIGH_END (42_bit_sampler.md R150). -/
def bitWaitHighEndRule (s : State) : State := if clockLevel s then s else endPulse s

/-- The state rule of BIT_WAIT_LOW_END (42_bit_sampler.md R151). -/
def bitWaitLowEndRule (s : State) : State := if clockLevel s then samplePoint s else s

/-- BIT_WAIT_HIGH_END (42_bit_sampler.md R150; timeout 60_exceptions.md R232). -/
def execBitWaitHighEnd (s : State) : Host.Outcome State Fault Refusal := .next (activeCycle bitWaitHighEndRule s)

/-- BIT_WAIT_LOW_END (42_bit_sampler.md R151, R152; timeout 60_exceptions.md R232). -/
def execBitWaitLowEnd (s : State) : Host.Outcome State Fault Refusal := .next (activeCycle bitWaitLowEndRule s)

end Sys2Proof.Machine
end

