-- ==== Sys2Proof/Machine/FrameDecoder.lean ====
section
/-!
DEFINITION. The FrameDecoder (43_frame_decoder.md): the DECODE state, and the rule of each frame class, which says
what a DECODE cycle loads for a frame of that class. A class rule takes the frame's fields as its operands and does
not read the `frame` register; that DECODE agrees with it is a statement, not a definition (log 8, log 10).
-/
namespace Sys2Proof.Machine

/-- DECODE (43_frame_decoder.md R170). -/
def execDecode (s : State) : Host.Outcome State Fault Refusal := .next (deliver (decodeResult s.params s.frame) s)

/-- VALID_POS (43_frame_decoder.md R176). -/
def execValidPos (value : Nat) (s : State) : Host.Outcome State Fault Refusal :=
  .next (deliver (okResult s.params false value) s)

/-- VALID_NEG (43_frame_decoder.md R177). -/
def execValidNeg (value : Nat) (s : State) : Host.Outcome State Fault Refusal :=
  .next (deliver (okResult s.params true value) s)

/-- INVALID_C0 (43_frame_decoder.md R184). -/
def execInvalidC0 (_sign : Bool) (_value : Nat) (s : State) : Host.Outcome State Fault Refusal :=
  .next (deliver invalidResult s)

/-- INVALID_C1 (43_frame_decoder.md R185). -/
def execInvalidC1 (_sign : Bool) (_value : Nat) (s : State) : Host.Outcome State Fault Refusal :=
  .next (deliver invalidResult s)

/-- INVALID_C2 (43_frame_decoder.md R186). -/
def execInvalidC2 (_sign : Bool) (_value : Nat) (s : State) : Host.Outcome State Fault Refusal :=
  .next (deliver invalidResult s)

/-- INVALID_C3 (43_frame_decoder.md R187). -/
def execInvalidC3 (_sign : Bool) (_value : Nat) (s : State) : Host.Outcome State Fault Refusal :=
  .next (deliver invalidResult s)

/-- INVALID_C5 (43_frame_decoder.md R188). -/
def execInvalidC5 (_sign : Bool) (_value : Nat) (s : State) : Host.Outcome State Fault Refusal :=
  .next (deliver invalidResult s)

/-- INVALID_C6 (43_frame_decoder.md R189). -/
def execInvalidC6 (_sign : Bool) (_value : Nat) (s : State) : Host.Outcome State Fault Refusal :=
  .next (deliver invalidResult s)

/-- INVALID_C7 (43_frame_decoder.md R190). -/
def execInvalidC7 (_sign : Bool) (_value : Nat) (s : State) : Host.Outcome State Fault Refusal :=
  .next (deliver invalidResult s)

end Sys2Proof.Machine
end

