-- ==== Sys2Proof/Machine/FrameSynchronizer.lean ====
section
/-!
DEFINITION. The FrameSynchronizer's two states (41_frame_synchronizer.md).
-/
namespace Sys2Proof.Machine

/-- The state rule of SYNC_WAIT_HIGH (41_frame_synchronizer.md R130). -/
def syncWaitHighRule (s : State) : State := if clockLevel s then startMeasure s else s

/-- The state rule of SYNC_MEASURE (41_frame_synchronizer.md R131). -/
def syncMeasureRule (s : State) : State :=
  if clockLevel s then countHigh s
  else if gapThreshold s.params < s.gapCount then declareSync s
  else rejectInterval s

/-- SYNC_WAIT_HIGH (41_frame_synchronizer.md R130; timeout R232). -/
def execSyncWaitHigh (s : State) : Host.Outcome State Fault Refusal := .next (activeCycle syncWaitHighRule s)

/-- SYNC_MEASURE (41_frame_synchronizer.md R131, R133, R134, R136; timeout R232). -/
def execSyncMeasure (s : State) : Host.Outcome State Fault Refusal := .next (activeCycle syncMeasureRule s)

end Sys2Proof.Machine
end

