-- ==== Sys2Proof/Machine/HostInterface.lean ====
section
/-!
DEFINITION. The host commands RESET, READ and NONE, the IDLE state, and the reserved states (44_host_interface.md,
70_reset_and_hazards.md R260, 30_encoding.md R83). A command's meaning is the whole cycle it is given in (log 8).
-/
namespace Sys2Proof.Machine

/-- The state rule of IDLE, with the request that the host makes or not (44_host_interface.md R200). -/
def idleRule (request : Bool) (s : State) : State := if request then accept s else s

/-- A cycle of IDLE (44_host_interface.md R200; `done_r` 10_state.md R38). -/
def idleCycle (request : Bool) (s : State) : State := idleRule request (clearDone s)

/-- IDLE: its operand is `in.read_req` (44_host_interface.md R200). -/
def execIdle (s : State) : Host.Outcome State Fault Refusal := .next (idleCycle (pinsNow s).readReq s)

/-- RESERVED_6 (30_encoding.md R83; log 6). -/
def execReserved6 (_s : State) : Host.Outcome State Fault Refusal := .fault .reservedState

/-- RESERVED_7 (30_encoding.md R83; log 6). -/
def execReserved7 (_s : State) : Host.Outcome State Fault Refusal := .fault .reservedState

/-- A cycle without reset: the block acts on the rule of its current state, and only IDLE looks at the request
(10_state.md R32; 44_host_interface.md R202, R203). -/
def stateCycle (request : Bool) (s : State) : Host.Outcome State Fault Refusal :=
  match s.state with
  | .idle => .next (idleCycle request s)
  | .syncWaitHigh => execSyncWaitHigh s
  | .syncMeasure => execSyncMeasure s
  | .bitWaitHighEnd => execBitWaitHighEnd s
  | .bitWaitLowEnd => execBitWaitLowEnd s
  | .decode => execDecode s
  | .reserved6 => execReserved6 s
  | .reserved7 => execReserved7 s

/-- RESET: its bit q is ignored (70_reset_and_hazards.md R260; 30_encoding.md R84). -/
def execReset (_readReq : Bool) (s : State) : Host.Outcome State Fault Refusal := .next (resetRegisters s)

/-- READ: accepted in IDLE, lost in every other state (44_host_interface.md R201, R202). -/
def execRead (s : State) : Host.Outcome State Fault Refusal := stateCycle true s

/-- NONE: the rule of the current state and nothing else (44_host_interface.md R203). -/
def execNoCommand (s : State) : Host.Outcome State Fault Refusal := stateCycle false s

end Sys2Proof.Machine
end

