-- ==== Sys2Proof/Machine/Dispatch.lean ====
section
/-!
DEFINITION. One arm per row of opcode_table.json, each one call of that row's meaning.
-/
namespace Sys2Proof.Machine

def exec (i : Instr) (s : State) : Host.Outcome State Fault Refusal :=
  match i with
  -- format HOST
  | .reset q => Sys2Proof.Machine.execReset q s
  | .read => Sys2Proof.Machine.execRead s
  | .noCommand => Sys2Proof.Machine.execNoCommand s
  -- format STATE
  | .idle => Sys2Proof.Machine.execIdle s
  | .syncWaitHigh => Sys2Proof.Machine.execSyncWaitHigh s
  | .syncMeasure => Sys2Proof.Machine.execSyncMeasure s
  | .bitWaitHighEnd => Sys2Proof.Machine.execBitWaitHighEnd s
  | .bitWaitLowEnd => Sys2Proof.Machine.execBitWaitLowEnd s
  | .decode => Sys2Proof.Machine.execDecode s
  | .reserved6 => Sys2Proof.Machine.execReserved6 s
  | .reserved7 => Sys2Proof.Machine.execReserved7 s
  -- format FRAME
  | .validPos v => Sys2Proof.Machine.execValidPos v s
  | .validNeg v => Sys2Proof.Machine.execValidNeg v s
  | .invalidC0 b v => Sys2Proof.Machine.execInvalidC0 b v s
  | .invalidC1 b v => Sys2Proof.Machine.execInvalidC1 b v s
  | .invalidC2 b v => Sys2Proof.Machine.execInvalidC2 b v s
  | .invalidC3 b v => Sys2Proof.Machine.execInvalidC3 b v s
  | .invalidC5 b v => Sys2Proof.Machine.execInvalidC5 b v s
  | .invalidC6 b v => Sys2Proof.Machine.execInvalidC6 b v s
  | .invalidC7 b v => Sys2Proof.Machine.execInvalidC7 b v s

end Sys2Proof.Machine
end

