-- ==== Sys2Proof/Machine/Elaborate.lean ====
section
/-!
DEFINITION. Elaboration: the checks that decide whether an instance exists (60_exceptions.md R233, 00_scope.md
R13), and the instance in its reset state where one does.
-/
namespace Sys2Proof.Machine

/-- The first check of 60_exceptions.md R233 that the parameters fail, in the rule's order. -/
def configProblem (p : Params) : Option ConfigError :=
  if p.valueBits + p.signBits + p.checkBits ≠ p.frameBits then some .layoutSum
  else if p.signBits ≠ 1 then some .signWidth
  else if p.valueBits < 1 ∨ p.checkBits < 1 then some .fieldWidth
  else if 2 ^ p.checkBits ≤ p.checkExpected then some .checkExpectedRange
  else if p.scaleWidth < 1 ∨ p.scaleFactor < 1 ∨ 2 ^ p.scaleWidth ≤ p.scaleFactor then some .scaleFactorRange
  else if 1 < p.syncBits then some .syncBitsRange
  else if p.syncStages < 1 then some .syncStagesRange
  else if p.gapThresholdDirect = Option.none ∧ p.cyclesPerUs < 1 then some .clockRate
  else Option.none

/-- Elaboration refuses the parameters or gives the instance in its reset state (60_exceptions.md R233;
70_reset_and_hazards.md R262, R263). -/
def elaborate (p : Params) : Except ConfigError State :=
  match configProblem p with
  | some e => .error e
  | Option.none => .ok (State.resetOf p)

end Sys2Proof.Machine
end

