-- ==== Sys2Proof/Machine/Fetch.lean ====
section
/-!
DEFINITION. Which rows of opcode_table.json a cycle stands under, and which of them the step runs (log 8). The
block fetches no instruction (20_memory.md R77): a cycle's HOST word is {rst, read_req} at its end, its STATE word
is the FSM state register, and a DECODE cycle's FRAME word is the frame register.
-/
namespace Sys2Proof.Machine

/-- The HOST word of this cycle (30_encoding.md R84). -/
def hostWord (s : State) : Nat := (hostCode (pinsNow s).rst (pinsNow s).readReq).toNat

/-- The STATE word of this cycle (30_encoding.md R82). -/
def stateWord (s : State) : Nat := (stateCode s.state).toNat

/-- The row that the step runs: the host command, or the reserved state, which faults in any cycle
(30_encoding.md R83, R84; 60_exceptions.md R230, R236; log 6). -/
def fetch (s : State) : Instr :=
  if isReserved s.state then stateRow s.state else hostRow (pinsNow s).rst (pinsNow s).readReq

/-- The words that this cycle stands under, outermost first. RESET discards every other event of its cycle
(60_exceptions.md R236); a FRAME word is a row of the table only under the table's layout (log 10). -/
def cycleWords (s : State) : List (Format × Nat) :=
  if isReserved s.state then [(.state, stateWord s)]
  else if (pinsNow s).rst then [(.host, hostWord s)]
  else [(.host, hostWord s), (.state, stateWord s)] ++
    (if s.state = .decode ∧ hasDefaultLayout s.params then [(.frame, s.frame)] else [])

/-- The end of a cycle whose row gave a next state; a fault or a refusal ends the run. -/
def finish : Host.Outcome State Fault Refusal → Host.Outcome State Fault Refusal
  | .next t => .next (endCycle t)
  | .fault f => .fault f
  | .refused r => .refused r

/-- This cycle's ports with the host command replaced. -/
def withCommand (rst readReq : Bool) (s : State) : State :=
  { s with inputs := { pinsNow s with rst := rst, readReq := readReq } :: s.inputs.tail }

/-- The state with the row of `w` placed where the next step runs it: a HOST word on the ports, a STATE word in the
FSM state register and a FRAME word in the frame register of a DECODE cycle, both with the command NONE (log 4,
log 9). -/
def placeWord (nbits w : Nat) (s : State) : State :=
  match formatOfBits nbits with
  | some .host =>
    withCommand (w.testBit 1) (w.testBit 0) { s with state := if isReserved s.state then .idle else s.state }
  | some .state => withCommand false false { s with state := (stateOfCode w).getD s.state }
  | some .frame => withCommand false false { s with state := .decode, frame := bitSlice w 0 24 }
  | Option.none => s

end Sys2Proof.Machine
end

