-- ==== Sys2Proof/Machine/Step.lean ====
section
/-!
DEFINITION. One cycle of `clk`: one call of `step`. An instance exists only where elaboration accepts its
parameters (60_exceptions.md R233; log 11).
-/
namespace Sys2Proof.Machine

/-- One cycle (00_scope.md section 5; 60_exceptions.md R236). -/
def step (s : State) : Host.Outcome State Fault Refusal :=
  match configProblem s.params with
  | some e => .refused (.configError e)
  | Option.none => finish (exec (fetch s) s)

/-- The state whose next step runs the row of the word `w`. -/
def State.withFetchWord (s : State) (nbits w : Nat) : State := placeWord nbits w s

end Sys2Proof.Machine
end

