-- ==== Sys2Proof/Machine/Stimulus.lean ====
section
/-!
DEFINITION. The stimulus notation of 30_encoding.md R92 and R93: what a stimulus fixes in each cycle, its lines and
pseudo-lines, the wire encoding of a frame (R81), and the state in which a stimulus is about to be driven.
-/
namespace Sys2Proof.Machine

/-- What a stimulus fixes in one cycle: the host's ports, and c and d as the block sees them (30_encoding.md R92). -/
structure StimulusCycle where
  rst : Bool
  readReq : Bool
  c : Bool
  d : Bool
  deriving DecidableEq, Repr

/-- `RST c d n` (30_encoding.md R92). -/
def rstLine (c d : Bool) (n : Nat) : List StimulusCycle :=
  List.replicate n { rst := true, readReq := false, c := c, d := d }

/-- `REQ c d` (30_encoding.md R92). -/
def reqLine (c d : Bool) : List StimulusCycle := [{ rst := false, readReq := true, c := c, d := d }]

/-- `SEG c d n` (30_encoding.md R92). -/
def segLine (c d : Bool) (n : Nat) : List StimulusCycle :=
  List.replicate n { rst := false, readReq := false, c := c, d := d }

/-- `REQSEG c d n` (30_encoding.md R92). -/
def reqSegLine (c d : Bool) (n : Nat) : List StimulusCycle :=
  List.replicate n { rst := false, readReq := true, c := c, d := d }

/-- `GAP n` (30_encoding.md R93). -/
def gapLine (n : Nat) : List StimulusCycle := segLine true true n

/-- `BIT b L H`: one clock pulse with the data line at the wire level of the bit (30_encoding.md R93). -/
def bitLine (b : Bool) (low high : Nat) : List StimulusCycle := segLine false (!b) low ++ segLine true (!b) high

/-- `FRAME F L H` (30_encoding.md R93). -/
def frameLine (p : Params) (frame low high : Nat) : List StimulusCycle :=
  (List.range p.frameBits).flatMap fun i => bitLine (frame.testBit i) low high

/-- `FRAME1 F L H`, for SB = 1: the frame without the bit that the synchronizer takes (30_encoding.md R93). -/
def frame1Line (p : Params) (frame low high : Nat) : List StimulusCycle :=
  (List.range' 1 (p.frameBits - 1)).flatMap fun i => bitLine (frame.testBit i) low high

/-- The wire levels of a whole frame as a word: `W = F XOR (2^FW - 1)` (30_encoding.md R81). -/
def wireWord (p : Params) (frame : Nat) : Nat := frame ^^^ (2 ^ p.frameBits - 1)

/-- A pin held at a level. -/
def heldAt (level : Bool) : LineLevel := if level then .high else .low

/-- The ports of cycle u of a stimulus: the host's of that cycle, and the lines' pins NS cycles early
(30_encoding.md R92; 40_edge_monitor.md R112). The pins of the last NS cycles are seen only after the stimulus, so
it leaves them free. -/
def stimulusPins (p : Params) (stimulus : List StimulusCycle) (cycle u : Nat) (x : StimulusCycle) : Pins where
  rst := x.rst
  readReq := x.readReq
  calClk :=
    match stimulus[u + p.syncStages]? with
    | some y => heldAt y.c
    | Option.none => (Config.environment (cycle + u)).calClk
  calData :=
    match stimulus[u + p.syncStages]? with
    | some y => heldAt y.d
    | Option.none => (Config.environment (cycle + u)).calData

/-- The synchronizer stages that a stimulus starts with: stage j shows in cycle NS - 1 - j
(spec/95_test_vectors.md, conventions). -/
def stimulusStages (stages : Nat) (levels : List Bool) (held : List Bool) : List Bool :=
  (List.range stages).map fun j => (levels[stages - 1 - j]?).getD (held.getD j false)

/-- The state s about to be driven by a stimulus from this cycle on. -/
def driveStimulus (stimulus : List StimulusCycle) (s : State) : State :=
  { s with
    clkSync := stimulusStages s.params.syncStages (stimulus.map (·.c)) s.clkSync
    dataSync := stimulusStages s.params.syncStages (stimulus.map (·.d)) s.dataSync
    inputs := stimulus.mapIdx (stimulusPins s.params stimulus s.cycle) }

end Sys2Proof.Machine
end

