-- ==== Sys2Proof/Machine/Flags.lean ====
section
/-!
DEFINITION. What the host sees: the flags (10_state.md R44) and output ports (R30), every one a function of the
state at the start of the cycle (R42), and the measurement that the outputs carry (43_frame_decoder.md R178).
-/
namespace Sys2Proof.Machine

/-- `busy = (s.state ≠ IDLE)` (10_state.md R39). -/
def busy (s : State) : Bool := decide (s.state ≠ .idle)

/-- `valid = (s.res_status == OK)` (10_state.md R41). -/
def valid (s : State) : Bool := decide (s.result.status = .ok)

/-- The output ports (10_state.md R30). -/
structure Outputs where
  busy : Bool
  done : Bool
  status : StatusCode
  valid : Bool
  sign : Bool
  magnitude : Nat
  quotient : Nat
  remainder : Nat
  deriving DecidableEq, Repr

/-- The value of every output port in this cycle (10_state.md R38 to R42). -/
def outputs (s : State) : Outputs where
  busy := busy s
  done := s.done
  status := statusCode s.result.status
  valid := valid s
  sign := s.result.sign
  magnitude := s.result.magnitude
  quotient := s.result.quotient
  remainder := s.result.remainder

/-- The exact rational `(sign ? -1 : +1) · (quotient + remainder / S)` that a triple of outputs stands for
(43_frame_decoder.md R179). -/
def tripleValue (scaleFactor : Nat) (sign : Bool) (quotient remainder : Nat) : Rat :=
  (if sign then -1 else 1) * ((quotient : Rat) + (remainder : Rat) / (scaleFactor : Rat))

/-- The exact rational `(sgn ? -1 : +1) · mag / S` (43_frame_decoder.md R178). -/
def scaledValue (scaleFactor : Nat) (sign : Bool) (magnitude : Nat) : Rat :=
  (if sign then -1 else 1) * ((magnitude : Rat) / (scaleFactor : Rat))

/-- A measurement (00_scope.md glossary; 10_state.md R40). -/
structure Measurement where
  sign : Bool
  magnitude : Nat
  scaled : Rat
  deriving DecidableEq, Repr

/-- The last result read as a measurement; none unless `valid` = 1, because the zeros of another result are no
measurement (10_state.md R41; 93_implementation_defined.md I-13). -/
def measurement (s : State) : Option Measurement :=
  if valid s then
    some {
      sign := s.result.sign
      magnitude := s.result.magnitude
      scaled := tripleValue s.params.scaleFactor s.result.sign s.result.quotient s.result.remainder }
  else Option.none

end Sys2Proof.Machine
end

