-- ==== Sys2Proof/Safety.lean ====
section
/-!
DEFINITION. What a sound state is, in the terms the claims use: the invariants of 10_state.md R48, the widths of
R33 to R40, and what the result registers can hold; the quiescent states of 44_host_interface.md R210; the rising
cycles of 42_bit_sampler.md R155; and runs of several cycles.
-/
namespace Sys2Proof.Machine

/-- The parameters are those of an instance that exists (60_exceptions.md R233). -/
abbrev ParamsLegal (p : Params) : Prop := configProblem p = Option.none

/-- The register values that 10_state.md R48 says every reachable state has, clause by clause. -/
abbrev ControlInv (s : State) : Prop :=
  isReserved s.state = false ∧
  ((s.state = .bitWaitHighEnd ∨ s.state = .bitWaitLowEnd) →
    s.params.syncBits ≤ s.bitIndex ∧ s.bitIndex < s.params.frameBits) ∧
  (s.state = .decode → s.bitIndex = s.params.frameBits) ∧
  (s.state = .syncMeasure → 1 ≤ s.gapCount ∧ s.gapCount ≤ gapThreshold s.params + 1) ∧
  (s.state ≠ .syncMeasure → s.gapCount = 0) ∧
  (0 < s.params.stallTimeout → isActive s.state = true → s.timeoutCount < s.params.stallTimeout) ∧
  (∀ i < s.params.frameBits, s.bitIndex ≤ i → s.frame.testBit i = false)

/-- What R48 leaves to its neighbours: the synchronizer states hold no bit yet (44_host_interface.md R201), the
registers keep their widths (10_state.md R33 to R37), and `done` is high only in IDLE with a result there
(R38, R39). -/
abbrev RegisterInv (s : State) : Prop :=
  ((s.state = .syncWaitHigh ∨ s.state = .syncMeasure) → s.bitIndex = 0) ∧
  s.bitIndex ≤ s.params.frameBits ∧
  s.frame < 2 ^ s.params.frameBits ∧
  s.timeoutCount ≤ s.params.stallTimeout - 1 ∧
  s.clkSync.length = s.params.syncStages ∧
  s.dataSync.length = s.params.syncStages ∧
  (s.done = true → s.state = .idle ∧ s.result.status ≠ .none)

/-- What the result registers can hold: widths (00_scope.md R21), the scaler's laws for an OK result
(43_frame_decoder.md R179), zeros for every other (R174, 60_exceptions.md R232), and STALL only with a timeout
(30_encoding.md R86). -/
abbrev ResultInv (s : State) : Prop :=
  s.result.magnitude < 2 ^ s.params.valueBits ∧
  s.result.quotient < 2 ^ s.params.valueBits ∧
  s.result.remainder < 2 ^ s.params.scaleWidth ∧
  (s.result.status = .ok →
    s.result.magnitude = s.result.quotient * s.params.scaleFactor + s.result.remainder ∧
    s.result.remainder < s.params.scaleFactor) ∧
  (s.result.status ≠ .ok →
    s.result.sign = false ∧ s.result.magnitude = 0 ∧ s.result.quotient = 0 ∧ s.result.remainder = 0) ∧
  (s.result.status = .stall → 0 < s.params.stallTimeout)

/-- A sound state of an instance that exists. -/
abbrev Sound (s : State) : Prop := ParamsLegal s.params ∧ ControlInv s ∧ RegisterInv s ∧ ResultInv s

/-- A quiescent state: IDLE with `done_r` = 0 and no request (44_host_interface.md R210). -/
abbrev Quiescent (s : State) : Prop :=
  s.state = .idle ∧ s.done = false ∧ (pinsNow s).readReq = false

/-- The level of the clock line at which an active state waits: held there, the block never leaves the state
(60_exceptions.md R231). -/
def stallLevel : FsmState → Option Bool
  | .idle => Option.none
  | .syncWaitHigh => some false
  | .syncMeasure => some true
  | .bitWaitHighEnd => some true
  | .bitWaitLowEnd => some false
  | .decode => Option.none
  | .reserved6 => Option.none
  | .reserved7 => Option.none

/-- The stall timeout fires in none of the next n cycles, if all of them are active (10_state.md R36;
60_exceptions.md R232). -/
abbrev NoTimeoutWithin (n : Nat) (s : State) : Prop :=
  s.params.stallTimeout = 0 ∨ s.timeoutCount + n < s.params.stallTimeout

/-- Cycle u is a rising cycle of the clock levels c: high after a low (42_bit_sampler.md R155). Cycle 0 is the first
of the BitSampler, and the cycle before it, in which sync was declared, was low. -/
def isRising (c : Nat → Bool) (u : Nat) : Bool := c u && (decide (u = 0) || !c (u - 1))

/-- The rising cycles before cycle n, in order (42_bit_sampler.md R155). -/
def risingCycles (c : Nat → Bool) (n : Nat) : List Nat := (List.range n).filter (isRising c)

/-- n cycles, ending at the first that stops the machine. -/
def run : Nat → State → Host.Outcome State Fault Refusal
  | 0, s => .next s
  | n + 1, s =>
    match step s with
    | .next s' => run n s'
    | .fault f => .fault f
    | .refused r => .refused r

/-- The machine is in state t after n cycles from s. -/
def runsTo (n : Nat) (s t : State) : Prop := run n s = .next t

end Sys2Proof.Machine
end

