-- ==== Sys2Proof/Certificates/Slice0/Obligations.lean ====
section
/-!
DEFINITION. The statements about the machine. A statement of an instruction's result has the form
`exec i s = .next { s with … }` with the written values spelled out: the record says at once what is written and
that every other field (every other register, the synchronizer stages, the ports, the parameters) is unchanged.
`clockLevel` and `dataLevel` are c and d; `pinsNow` is the ports at the end of the cycle. `exec` of a STATE row is the
rule of that state and does not look at the state register again (log 8).
-/

open Sys2Proof Sys2Proof.Machine

/-! ## Encodings -/

/-- R80, R82, R84, R88: no bit of an encoding is dropped. -/
def Obligations.DecodingAnEncodedInstructionGivesItBack : Prop :=
  ∀ i : Instr, i.wellFormed = true → decode (formatOf i) (encode i) = .ok i

/-- R82, R84, R88: a word has one meaning, and that meaning has one word. -/
def Obligations.EncodingADecodedWordGivesItBack : Prop :=
  ∀ (f : Format) (w : Nat) (i : Instr), decode f w = .ok i →
    formatOf i = f ∧ i.wellFormed = true ∧ encode i = w

/-- R82, R84, R88: words written out from the spec's encodings. -/
def Obligations.WordsWrittenFromTheSpecDecode : Prop :=
  decode .host 0b10 = .ok (.reset false) ∧ decode .host 0b11 = .ok (.reset true) ∧
  decode .host 0b01 = .ok .read ∧ decode .state 0b100 = .ok .bitWaitLowEnd ∧
  decode .frame 0x800096 = .ok (.validPos 150) ∧ decode .frame 0x900096 = .ok (.validNeg 150) ∧
  decode .frame 0xB00096 = .ok (.invalidC5 true 150) ∧ decode .frame 0x7FFF69 = .ok (.invalidC3 true 0xFFF69)

/-- R88: the classes of the default layout, by CHECK and SIGN and by mask and match. -/
def Obligations.EveryFrameWordFallsIntoExactlyOneClass : Prop :=
  ∀ (p : Params) (w : Nat), hasDefaultLayout p = true → w < 2 ^ 24 →
    ((checkField p w = p.checkExpected ∧ signField p w = false) ↔ w &&& 0xF00000 = 0x800000) ∧
    ((checkField p w = p.checkExpected ∧ signField p w = true) ↔ w &&& 0xF00000 = 0x900000) ∧
    (∀ n, checkField p w = n ↔ w &&& 0xE00000 = n * 2 ^ 21) ∧
    (w &&& 0xF00000 = 0x800000 → decode .frame w = .ok (.validPos (w &&& 0x0FFFFF))) ∧
    (w &&& 0xF00000 = 0x900000 → decode .frame w = .ok (.validNeg (w &&& 0x0FFFFF))) ∧
    (w &&& 0xE00000 = 0x000000 → decode .frame w = .ok (.invalidC0 (w.testBit 20) (w &&& 0x0FFFFF))) ∧
    (w &&& 0xE00000 = 0x200000 → decode .frame w = .ok (.invalidC1 (w.testBit 20) (w &&& 0x0FFFFF))) ∧
    (w &&& 0xE00000 = 0x400000 → decode .frame w = .ok (.invalidC2 (w.testBit 20) (w &&& 0x0FFFFF))) ∧
    (w &&& 0xE00000 = 0x600000 → decode .frame w = .ok (.invalidC3 (w.testBit 20) (w &&& 0x0FFFFF))) ∧
    (w &&& 0xE00000 = 0xA00000 → decode .frame w = .ok (.invalidC5 (w.testBit 20) (w &&& 0x0FFFFF))) ∧
    (w &&& 0xE00000 = 0xC00000 → decode .frame w = .ok (.invalidC6 (w.testBit 20) (w &&& 0x0FFFFF))) ∧
    (w &&& 0xE00000 = 0xE00000 → decode .frame w = .ok (.invalidC7 (w.testBit 20) (w &&& 0x0FFFFF)))

/-- R82, R83: the codes of the FSM states. -/
def Obligations.StateCodesAreThoseOfTheTable : Prop :=
  stateCode .idle = 0 ∧ stateCode .syncWaitHigh = 1 ∧ stateCode .syncMeasure = 2 ∧
  stateCode .bitWaitHighEnd = 3 ∧ stateCode .bitWaitLowEnd = 4 ∧ stateCode .decode = 5 ∧
  stateCode .reserved6 = 6 ∧ stateCode .reserved7 = 7 ∧
  ∀ st : FsmState, decode .state (stateCode st).toNat = .ok (stateRow st)

/-- R86, R41: the status codes on the output, and `valid`. -/
def Obligations.StatusAndValidOutputs : Prop :=
  ∀ s : State,
    (s.result.status = .none → (outputs s).status = 0b00 ∧ (outputs s).valid = false) ∧
    (s.result.status = .ok → (outputs s).status = 0b01 ∧ (outputs s).valid = true) ∧
    (s.result.status = .invalid → (outputs s).status = 0b10 ∧ (outputs s).valid = false) ∧
    (s.result.status = .stall → (outputs s).status = 0b11 ∧ (outputs s).valid = false)

/-- R81, R93: the wire word is the frame with every bit inverted, and its bit i is the data level that a FRAME line
drives through the pulse of frame bit i: in its low cycles and, from the sample point on, in its high ones. A FRAME1
line drives the same from bit 1 on. -/
def Obligations.TheWireCarriesEveryBitInverted : Prop :=
  (∀ (p : Params) (f low high : Nat), f < 2 ^ p.frameBits → 1 ≤ low → 1 ≤ high →
    (∀ i, (wireWord p f).testBit i = (decide (i < p.frameBits) && !f.testBit i)) ∧
    (frameLine p f low high).length = p.frameBits * (low + high) ∧
    (∀ k < p.frameBits * (low + high), (frameLine p f low high)[k]? = some
      { rst := false, readReq := false, c := decide (low ≤ k % (low + high))
        d := (wireWord p f).testBit (k / (low + high)) }) ∧
    (frame1Line p f low high).length = (p.frameBits - 1) * (low + high) ∧
    (∀ k < (p.frameBits - 1) * (low + high), (frame1Line p f low high)[k]? = some
      { rst := false, readReq := false, c := decide (low ≤ k % (low + high))
        d := (wireWord p f).testBit (k / (low + high) + 1) })) ∧
  (∀ p : Params, p.frameBits = 24 → wireWord p 0x800096 = 0x7FFF69)

/-- R8 to R12, R14 to R16, R18 to R20: the defaults, with the two open parameters at any value. -/
def Obligations.TheDefaultsAreTheSpecs : Prop :=
  ∀ (k scale : Nat) (p : Params), p = { cyclesPerUs := k, scaleFactor := scale } →
    hasDefaultLayout p = true ∧ gapThreshold p = 500 * k ∧ p.syncStages = 2 ∧ p.scaleWidth = 32 ∧
    p.syncBits = 0 ∧ p.stallTimeout = 0 ∧
    (∀ gt, gapThreshold { p with gapThresholdDirect := some gt } = gt)

/-! ## The EdgeMonitor -/

/-- R92, R112: a stimulus is seen cycle by cycle as it is written. -/
def Obligations.AStimulusIsSeenAsItIsWritten : Prop :=
  ∀ (stimulus : List StimulusCycle) (s t : State) (k : Nat) (x : StimulusCycle), ParamsLegal s.params →
    stimulus[k]? = some x → runsTo k (driveStimulus stimulus s) t →
    clockLevel t = x.c ∧ dataLevel t = x.d ∧ (pinsNow t).rst = x.rst ∧ (pinsNow t).readReq = x.readReq

/-- R110, R111: c and d are the last stages. -/
def Obligations.QueriesReadTheLastStage : Prop :=
  ∀ s : State, 1 ≤ s.params.syncStages → s.clkSync.length = s.params.syncStages →
    s.dataSync.length = s.params.syncStages →
    s.clkSync[s.params.syncStages - 1]? = some (clockLevel s) ∧
    s.dataSync[s.params.syncStages - 1]? = some (dataLevel s)

/-- R37, R114: a pin that holds a level at the edge is sampled at that level. -/
def Obligations.AHeldPinIsSampledAtItsLevel : Prop :=
  ∀ s : State,
    ((pinsNow s).calClk = .high → clkPin s = true) ∧ ((pinsNow s).calClk = .low → clkPin s = false) ∧
    ((pinsNow s).calData = .high → dataPin s = true) ∧ ((pinsNow s).calData = .low → dataPin s = false)

/-- R112: every cycle shifts both synchronizers, and so the block sees the pins NS cycles late. -/
def Obligations.LinesAreSeenNSCyclesLate : Prop :=
  (∀ s t : State, step s = .next t → s.clkSync.length = s.params.syncStages →
    s.dataSync.length = s.params.syncStages →
    t.clkSync[0]? = some (clkPin s) ∧ t.dataSync[0]? = some (dataPin s) ∧
    (∀ j, j + 1 < s.params.syncStages → t.clkSync[j + 1]? = s.clkSync[j]? ∧ t.dataSync[j + 1]? = s.dataSync[j]?)) ∧
  (∀ s t : State, ParamsLegal s.params → runsTo s.params.syncStages s t → clockLevel t = clkPin s ∧ dataLevel t = dataPin s)

/-! ## Host commands and IDLE -/

/-- R260: what the RESET row writes, whatever its bit q is, and what it leaves. That the row has a meaning in a
reserved state too is the model's choice (log 6). -/
def Obligations.ResetWritesTheResetValues : Prop :=
  ∀ (q : Bool) (s : State), exec (.reset q) s = .next
    { s with
      state := .idle, bitIndex := 0, frame := 0, gapCount := 0, timeoutCount := 0, done := false
      result := { status := .none, sign := false, magnitude := 0, quotient := 0, remainder := 0 } }

/-- R260: a whole cycle in which `rst` = 1, with the synchronizers shifting on. -/
def Obligations.AResetCycleLeavesTheResetState : Prop :=
  ∀ s : State, ParamsLegal s.params → isReserved s.state = false → (pinsNow s).rst = true →
    ∃ t, step s = .next t ∧ t.state = .idle ∧ t.bitIndex = 0 ∧ t.frame = 0 ∧ t.gapCount = 0 ∧
      t.timeoutCount = 0 ∧ t.done = false ∧
      t.result = { status := .none, sign := false, magnitude := 0, quotient := 0, remainder := 0 } ∧
      (outputs t).busy = false ∧ (outputs t).done = false ∧ (outputs t).valid = false ∧ (outputs t).status = 0b00 ∧
      t.clkSync = (clkPin s :: s.clkSync).take s.params.syncStages ∧
      t.dataSync = (dataPin s :: s.dataSync).take s.params.syncStages ∧ t.params = s.params

/-- R201: acceptance. `done_r` follows R38. -/
def Obligations.ReadInIdleIsAccepted : Prop :=
  ∀ s : State, s.state = .idle → exec .read s = .next
    { s with state := .syncWaitHigh, bitIndex := 0, frame := 0, gapCount := 0, timeoutCount := 0, done := false }

/-- R202: a READ in any state other than IDLE makes no difference to the cycle. -/
def Obligations.ReadOutsideIdleIsLost : Prop :=
  ∀ s : State, s.state ≠ .idle → exec .read s = exec .noCommand s

/-- R203: NONE is the rule of the current state: IDLE stays IDLE, and every other cycle goes on. -/
def Obligations.NoneActsOnTheRuleOfTheStateOnly : Prop :=
  ∀ s : State,
    (s.state = .idle → exec .noCommand s = .next { s with done := false }) ∧
    (s.state ≠ .idle → exec .noCommand s = exec (stateRow s.state) s) ∧
    (isReserved s.state = false → ∃ t, exec .noCommand s = .next t)

/-- R200: IDLE looks at `read_req` alone; `busy` is 0 in IDLE and 1 after acceptance. -/
def Obligations.IdleWaitsForARequest : Prop :=
  ∀ s : State,
    ((pinsNow s).readReq = true → exec .idle s = .next
      { s with state := .syncWaitHigh, bitIndex := 0, frame := 0, gapCount := 0, timeoutCount := 0, done := false }) ∧
    ((pinsNow s).readReq = false → exec .idle s = .next { s with done := false }) ∧
    (s.state = .idle → (outputs s).busy = false ∧
      ∀ t, exec .idle s = .next t → (outputs t).busy = (pinsNow s).readReq)

/-- R83, R230: the reserved states fault, as rows and in a cycle without reset. That a step from one faults also in
a cycle with `rst` = 1, before reset's priority of R236, is the model's choice (log 6). -/
def Obligations.ReservedStatesFault : Prop :=
  (∀ s : State, exec .reserved6 s = .fault .reservedState ∧ exec .reserved7 s = .fault .reservedState) ∧
  (∀ s : State, ParamsLegal s.params → (s.state = .reserved6 ∨ s.state = .reserved7) →
    step s = .fault .reservedState)

/-! ## The FrameSynchronizer -/

/-- R130: SYNC_WAIT_HIGH, in a cycle that the timeout does not end. -/
def Obligations.SyncWaitHighStartsAMeasurementOnAHighClock : Prop :=
  ∀ s : State, ¬ (0 < s.params.stallTimeout ∧ s.timeoutCount + 1 = s.params.stallTimeout) →
    (clockLevel s = true → exec .syncWaitHigh s = .next
      { s with
        gapCount := 1, state := .syncMeasure, done := false
        timeoutCount := if s.params.stallTimeout = 0 then s.timeoutCount else s.timeoutCount + 1 }) ∧
    (clockLevel s = false → exec .syncWaitHigh s = .next
      { s with
        done := false
        timeoutCount := if s.params.stallTimeout = 0 then s.timeoutCount else s.timeoutCount + 1 })

/-- R131, R134, R139: SYNC_MEASURE counts a high clock with saturation, and a short interval goes back. -/
def Obligations.SyncMeasureCountsAndRejectsShortIntervals : Prop :=
  ∀ s : State, ¬ (0 < s.params.stallTimeout ∧ s.timeoutCount + 1 = s.params.stallTimeout) →
    (clockLevel s = true → exec .syncMeasure s = .next
      { s with
        gapCount := min (s.gapCount + 1) (gapThreshold s.params + 1), done := false
        timeoutCount := if s.params.stallTimeout = 0 then s.timeoutCount else s.timeoutCount + 1 }) ∧
    (clockLevel s = false → s.gapCount ≤ gapThreshold s.params → exec .syncMeasure s = .next
      { s with
        gapCount := 0, state := .syncWaitHigh, done := false
        timeoutCount := if s.params.stallTimeout = 0 then s.timeoutCount else s.timeoutCount + 1 })

/-- R133: sync declared with SB = 0. -/
def Obligations.SyncDeclaredWithoutABit : Prop :=
  ∀ s : State, ¬ (0 < s.params.stallTimeout ∧ s.timeoutCount + 1 = s.params.stallTimeout) →
    s.params.syncBits = 0 → clockLevel s = false → gapThreshold s.params < s.gapCount →
    exec .syncMeasure s = .next
      { s with
        gapCount := 0, state := .bitWaitLowEnd, done := false
        timeoutCount := if s.params.stallTimeout = 0 then s.timeoutCount else s.timeoutCount + 1 }

/-- R136: sync declared with SB = 1 captures f[0] as well. -/
def Obligations.SyncDeclaredWithTheFirstBit : Prop :=
  ∀ s : State, ¬ (0 < s.params.stallTimeout ∧ s.timeoutCount + 1 = s.params.stallTimeout) →
    s.params.syncBits = 1 → clockLevel s = false → gapThreshold s.params < s.gapCount →
    ∃ frame, exec .syncMeasure s = .next
      { s with
        frame := frame, bitIndex := 1, gapCount := 0, state := .bitWaitLowEnd, done := false
        timeoutCount := if s.params.stallTimeout = 0 then s.timeoutCount else s.timeoutCount + 1 } ∧
      ∀ j, frame.testBit j = if j = 0 then !dataLevel s else s.frame.testBit j

/-- R132, R140: a run of n high cycles counts n, saturated, and is a start gap exactly when n exceeds GT, where the
timeout does not end the acquisition cycle first. -/
def Obligations.AHighRunIsAStartGapExactlyWhenItExceedsTheThreshold : Prop :=
  ∀ (s : State) (n : Nat), ParamsLegal s.params → NoTimeoutWithin (n + 1) s → s.state = .syncWaitHigh → 1 ≤ n →
    (∀ k < n, ∀ u, runsTo k s u → clockLevel u = true ∧ (pinsNow u).rst = false) →
    ∃ t, runsTo n s t ∧ t.state = .syncMeasure ∧ t.gapCount = min n (gapThreshold s.params + 1) ∧
      (clockLevel t = false → (pinsNow t).rst = false → ∃ v, step t = .next v ∧
        (gapThreshold s.params < n → v.state = .bitWaitLowEnd) ∧
        (n ≤ gapThreshold s.params → v.state = .syncWaitHigh) ∧ v.gapCount = 0)

/-- R137: behind every count there are that many high cycles in a row, so no partial interval makes a false start. -/
def Obligations.ACountNeverExceedsTheHighRunBehindIt : Prop :=
  ∀ (s t : State) (n : Nat), s.state = .idle → runsTo n s t → t.state = .syncMeasure →
    t.gapCount ≤ n ∧ ∀ j, 1 ≤ j → j ≤ t.gapCount → ∃ u, runsTo (n - j) s u ∧ clockLevel u = true

/-! ## The BitSampler -/

/-- R150: BIT_WAIT_HIGH_END, in a cycle that the timeout does not end. -/
def Obligations.BitWaitHighEndWaitsForALowClock : Prop :=
  ∀ s : State, ¬ (0 < s.params.stallTimeout ∧ s.timeoutCount + 1 = s.params.stallTimeout) →
    (clockLevel s = false → exec .bitWaitHighEnd s = .next
      { s with
        state := .bitWaitLowEnd, done := false
        timeoutCount := if s.params.stallTimeout = 0 then s.timeoutCount else s.timeoutCount + 1 }) ∧
    (clockLevel s = true → exec .bitWaitHighEnd s = .next
      { s with
        done := false
        timeoutCount := if s.params.stallTimeout = 0 then s.timeoutCount else s.timeoutCount + 1 })

/-- R151, R152, R153: BIT_WAIT_LOW_END waits for a high clock and samples the negated data level there. -/
def Obligations.BitWaitLowEndSamplesTheNegatedDataLevel : Prop :=
  ∀ s : State, ¬ (0 < s.params.stallTimeout ∧ s.timeoutCount + 1 = s.params.stallTimeout) →
    (clockLevel s = true → ∃ frame, exec .bitWaitLowEnd s = .next
      { s with
        frame := frame, bitIndex := s.bitIndex + 1, done := false
        state := if s.bitIndex + 1 = s.params.frameBits then .decode else .bitWaitHighEnd
        timeoutCount := if s.params.stallTimeout = 0 then s.timeoutCount else s.timeoutCount + 1 } ∧
      ∀ j, frame.testBit j = if j = s.bitIndex then !dataLevel s else s.frame.testBit j) ∧
    (clockLevel s = false → exec .bitWaitLowEnd s = .next
      { s with
        done := false
        timeoutCount := if s.params.stallTimeout = 0 then s.timeoutCount else s.timeoutCount + 1 })

/-- R156, R115: the data line is read at sample points alone (and, with SB = 1, where sync is declared). -/
def Obligations.TheDataLineMattersOnlyAtSamplePoints : Prop :=
  ∀ (s t : State) (other : List Bool), step s = .next t →
    ¬ (s.state = .bitWaitLowEnd ∧ clockLevel s = true) →
    ¬ (s.state = .syncMeasure ∧ clockLevel s = false ∧ gapThreshold s.params < s.gapCount ∧
      s.params.syncBits = 1) →
    ∃ t', step { s with dataSync := other } = .next t' ∧ { t' with dataSync := t.dataSync } = t

/-- R155, R154, R158, R156: the rising cycles of the clock are, in order, the sample points of the frame bits from
`bitIndex` on, and no other cycle is one, however long each low and each high is and whatever the data line does in
between. Cycle n - 1 is at the latest the last sample point; reset and the timeout end no acquisition before. -/
def Obligations.TheRisingCyclesAreTheSamplePoints : Prop :=
  ∀ (s : State) (n : Nat) (c d : Nat → Bool), ParamsLegal s.params → NoTimeoutWithin n s →
    s.state = .bitWaitLowEnd → s.bitIndex + (risingCycles c (n - 1)).length < s.params.frameBits →
    (∀ k < n, ∀ u, runsTo k s u → clockLevel u = c k ∧ dataLevel u = d k ∧ (pinsNow u).rst = false) →
    ∃ t, runsTo n s t ∧ t.bitIndex = s.bitIndex + (risingCycles c n).length ∧
      (∀ i u, (risingCycles c n)[i]? = some u → t.frame.testBit (s.bitIndex + i) = !d u) ∧
      (∀ j, j < s.bitIndex ∨ t.bitIndex ≤ j → t.frame.testBit j = s.frame.testBit j) ∧
      t.state =
        if t.bitIndex = s.params.frameBits then .decode
        else if 0 < n ∧ c (n - 1) = true then .bitWaitHighEnd else .bitWaitLowEnd

/-- R155, R158, R156, R81, R62, R136: from the cycle after sync was declared, a frame whose bits SB to FW - 1 stand
inverted on the data line at the rising cycles is received bit for bit: each pulse has its own lengths, and between
sample points the data line is free. With SB = 1 the synchronizer has f[0] already. The last rising cycle is cycle
n - 1, and the result is out two cycles after it (R278). -/
def Obligations.AFrameOnTheWireIsReceivedInAnyRhythm : Prop :=
  ∀ (s : State) (word n : Nat) (c d : Nat → Bool), ParamsLegal s.params → NoTimeoutWithin n s →
    word < 2 ^ s.params.frameBits →
    s.state = .bitWaitLowEnd → s.bitIndex = s.params.syncBits → s.frame = word % 2 ^ s.params.syncBits →
    (∀ k < n, ∀ u, runsTo k s u → clockLevel u = c k ∧ dataLevel u = d k) →
    (∀ k ≤ n, ∀ u, runsTo k s u → (pinsNow u).rst = false) →
    isRising c (n - 1) = true → s.params.syncBits + (risingCycles c n).length = s.params.frameBits →
    (∀ i u, (risingCycles c n)[i]? = some u → d u = !word.testBit (s.params.syncBits + i)) →
    ∃ t, runsTo (n + 1) s t ∧
      t.frame = word ∧ t.bitIndex = s.params.frameBits ∧ t.state = .idle ∧ t.done = true ∧
      t.result = decodeResult s.params word

/-- R2, R3, R92, R93, R278: the stimulus of one acquisition, from the request to the result. With SB = 0 it is
`REQ; GAP; FRAME`, with SB = 1 `REQ; GAP; SEG 0 d 1; FRAME1` with the wire level of f[0] in the low cycle that ends
the gap (R136). What follows the frame is a gap again. -/
def Obligations.AFrameStimulusDeliversItsResult : Prop :=
  ∀ (s : State) (word gap low high tail : Nat) (c d : Bool), ParamsLegal s.params → s.state = .idle →
    word < 2 ^ s.params.frameBits → gapThreshold s.params < gap → 1 ≤ low → 1 ≤ high → 1 ≤ tail →
    (s.params.syncBits = 0 →
      ∀ m, m = gap + ((s.params.frameBits - 1) * (low + high) + low + 1) →
      s.params.stallTimeout = 0 ∨ m < s.params.stallTimeout →
      ∃ t, runsTo (m + 2) (driveStimulus
          (reqLine c d ++ gapLine gap ++ frameLine s.params word low high ++ gapLine tail) s) t ∧
        t.frame = word ∧ t.state = .idle ∧ t.done = true ∧ t.result = decodeResult s.params word) ∧
    (s.params.syncBits = 1 →
      ∀ m, m = gap + 1 + ((s.params.frameBits - 2) * (low + high) + low + 1) →
      s.params.stallTimeout = 0 ∨ m < s.params.stallTimeout →
      ∃ t, runsTo (m + 2) (driveStimulus
          (reqLine c d ++ gapLine gap ++ segLine false (!word.testBit 0) 1 ++ frame1Line s.params word low high
            ++ gapLine tail) s) t ∧
        t.frame = word ∧ t.state = .idle ∧ t.done = true ∧ t.result = decodeResult s.params word)

/-! ## The FrameDecoder and the scaler -/

/-- R170: DECODE, in any layout. -/
def Obligations.DecodeLoadsTheResult : Prop :=
  ∀ s : State,
    (s.frame / 2 ^ (s.params.valueBits + 1) % 2 ^ s.params.checkBits ≠ s.params.checkExpected →
      exec .decode s = .next
        { s with
          result := { status := .invalid, sign := false, magnitude := 0, quotient := 0, remainder := 0 }
          done := true, state := .idle }) ∧
    (s.frame / 2 ^ (s.params.valueBits + 1) % 2 ^ s.params.checkBits = s.params.checkExpected →
      exec .decode s = .next
        { s with
          result :=
            { status := .ok
              sign := s.frame.testBit s.params.valueBits
              magnitude := s.frame % 2 ^ s.params.valueBits
              quotient := s.frame % 2 ^ s.params.valueBits / s.params.scaleFactor
              remainder := s.frame % 2 ^ s.params.valueBits % s.params.scaleFactor }
          done := true, state := .idle }) ∧
    (∀ t, exec .decode s = .next t → (outputs t).done = true ∧ (outputs t).busy = false ∧
      ((outputs t).valid = true ↔
        s.frame / 2 ^ (s.params.valueBits + 1) % 2 ^ s.params.checkBits = s.params.checkExpected))

/-- R176, R177: the valid classes. -/
def Obligations.ValidClassesLoadTheMeasurement : Prop :=
  ∀ (v : Nat) (s : State),
    exec (.validPos v) s = .next
      { s with
        result :=
          { status := .ok, sign := false, magnitude := v, quotient := v / s.params.scaleFactor
            remainder := v % s.params.scaleFactor }
        done := true, state := .idle } ∧
    exec (.validNeg v) s = .next
      { s with
        result :=
          { status := .ok, sign := true, magnitude := v, quotient := v / s.params.scaleFactor
            remainder := v % s.params.scaleFactor }
        done := true, state := .idle }

/-- R184 to R190, R174: the invalid classes load INVALID and zeros, whatever the sign and value bits are. -/
def Obligations.InvalidClassesLoadNoValue : Prop :=
  ∀ (b : Bool) (v : Nat) (s : State) (i : Instr),
    i ∈ [.invalidC0 b v, .invalidC1 b v, .invalidC2 b v, .invalidC3 b v, .invalidC5 b v, .invalidC6 b v,
      Instr.invalidC7 b v] →
    exec i s = .next
      { s with
        result := { status := .invalid, sign := false, magnitude := 0, quotient := 0, remainder := 0 }
        done := true, state := .idle }

/-- R170, R176, R177, R184 to R190: a DECODE cycle does what the class of its frame says. -/
def Obligations.DecodeDoesWhatTheFrameClassSays : Prop :=
  ∀ (s : State) (i : Instr), hasDefaultLayout s.params = true → decode .frame s.frame = .ok i →
    exec .decode s = exec i s

/-- R191: DECODE reads the frame and the parameters and nothing else, and changes neither frame nor bitIndex. -/
def Obligations.DecodeReadsTheFrameAlone : Prop :=
  ∀ s s' : State, s.params = s'.params → s.frame = s'.frame →
    ∃ t t', exec .decode s = .next t ∧ exec .decode s' = .next t' ∧
      t.result = t'.result ∧ t.done = t'.done ∧ t.state = t'.state ∧
      t = { s with result := t.result, done := t.done, state := t.state }

/-- R192: the magnitude depends on the value bits only, and an invalid result on none of them. -/
def Obligations.TheMagnitudeDependsOnTheValueBitsOnly : Prop :=
  ∀ s s' t t' : State, s.params = s'.params →
    exec .decode s = .next t → exec .decode s' = .next t' →
    (checkField s.params s.frame = s.params.checkExpected →
      checkField s'.params s'.frame = s'.params.checkExpected →
      (∀ i < s.params.valueBits, s.frame.testBit i = s'.frame.testBit i) →
      t.result.magnitude = t'.result.magnitude) ∧
    (checkField s.params s.frame ≠ s.params.checkExpected →
      checkField s'.params s'.frame ≠ s'.params.checkExpected →
      t.result = t'.result ∧ t.result.status = .invalid)

/-- R193: encoding a magnitude and a sign and decoding the frame gives them back, in every legal layout. -/
def Obligations.AnEncodedMeasurementDecodesToItself : Prop :=
  ∀ (s : State) (sgn : Bool) (mag : Nat), ParamsLegal s.params → mag < 2 ^ s.params.valueBits →
    s.frame = mag + (if sgn then 1 else 0) * 2 ^ s.params.valueBits
      + s.params.checkExpected * 2 ^ (s.params.valueBits + 1) →
    ∃ t, exec .decode s = .next t ∧ t.result.status = .ok ∧ t.result.magnitude = mag ∧ t.result.sign = sgn

/-- R178, R179: the triple is exact. -/
def Obligations.TheScalerIsExact : Prop :=
  ∀ (p : Params) (sgn : Bool) (mag : Nat), ParamsLegal p → mag < 2 ^ p.valueBits →
    (okResult p sgn mag).quotient = mag / p.scaleFactor ∧ (okResult p sgn mag).remainder = mag % p.scaleFactor ∧
    (okResult p sgn mag).quotient ≤ mag ∧ (okResult p sgn mag).quotient < 2 ^ p.valueBits ∧
    (okResult p sgn mag).remainder < p.scaleFactor ∧ (okResult p sgn mag).remainder < 2 ^ p.scaleWidth ∧
    mag = (okResult p sgn mag).quotient * p.scaleFactor + (okResult p sgn mag).remainder ∧
    tripleValue p.scaleFactor sgn (okResult p sgn mag).quotient (okResult p sgn mag).remainder
      = (if sgn then -1 else 1) * ((mag : Rat) / (p.scaleFactor : Rat))

/-- R175, R178, R174: what a DECODE cycle lets the host read as a measurement. -/
def Obligations.ADecodedFrameReadsAsItsMeasurement : Prop :=
  ∀ (s t : State), ParamsLegal s.params → exec .decode s = .next t →
    (checkField s.params s.frame = s.params.checkExpected →
      measurement t = some
        { sign := s.frame.testBit s.params.valueBits
          magnitude := s.frame % 2 ^ s.params.valueBits
          scaled := scaledValue s.params.scaleFactor (s.frame.testBit s.params.valueBits)
            (s.frame % 2 ^ s.params.valueBits) }) ∧
    (checkField s.params s.frame ≠ s.params.checkExpected → measurement t = none)

/-! ## Errors, the stall timeout and priorities -/

/-- R232: the cycle in which the timeout fires, in each of the four active states. -/
def Obligations.TheStallTimeoutReplacesTheStateRule : Prop :=
  ∀ (s : State) (i : Instr), 0 < s.params.stallTimeout → s.timeoutCount + 1 = s.params.stallTimeout →
    i ∈ [.syncWaitHigh, .syncMeasure, .bitWaitHighEnd, Instr.bitWaitLowEnd] →
    exec i s = .next
      { s with
        result := { status := .stall, sign := false, magnitude := 0, quotient := 0, remainder := 0 }
        done := true, state := .idle, gapCount := 0, timeoutCount := 0 }

/-- R232: with READ accepted in cycle t₀, `timeoutCount` is k - 1 in cycle t₀ + k, and a block still active in
cycle t₀ + TO shows STALL in cycle t₀ + TO + 1. -/
def Obligations.TheTimeoutFiresInItsCycleAfterAcceptance : Prop :=
  ∀ s : State, ParamsLegal s.params → 0 < s.params.stallTimeout → s.state = .idle →
    (pinsNow s).rst = false → (pinsNow s).readReq = true →
    (∀ k, 1 ≤ k → k ≤ s.params.stallTimeout → ∀ u, runsTo k s u →
      isActive u.state = true ∧ (pinsNow u).rst = false) →
    (∀ k, 1 ≤ k → k ≤ s.params.stallTimeout → ∃ u, runsTo k s u ∧ u.timeoutCount = k - 1) ∧
    ∃ t, runsTo (s.params.stallTimeout + 1) s t ∧ t.done = true ∧ t.state = .idle ∧
      t.result = { status := .stall, sign := false, magnitude := 0, quotient := 0, remainder := 0 }

/-- R20, R232: with a timeout and no reset, an acquisition cycle leaves the active states within what is left of
its TO cycles. -/
def Obligations.ATimeoutBoundsEveryAcquisition : Prop :=
  ∀ s : State, Sound s → 0 < s.params.stallTimeout → isActive s.state = true →
    (∀ k < s.params.stallTimeout - s.timeoutCount, ∀ u, runsTo k s u → (pinsNow u).rst = false) →
    ∃ n t, n ≤ s.params.stallTimeout - s.timeoutCount ∧ runsTo n s t ∧ (t.state = .idle ∨ t.state = .decode)

/-- R231, R135, R157: with TO = 0 a clock held at the level a state waits at keeps the block there forever. -/
def Obligations.AStalledClockHangsWithoutATimeout : Prop :=
  ∀ (s : State) (level : Bool) (n : Nat), ParamsLegal s.params → s.params.stallTimeout = 0 →
    stallLevel s.state = some level →
    (∀ k < n, ∀ u, runsTo k s u → clockLevel u = level ∧ (pinsNow u).rst = false) →
    ∃ t, runsTo n s t ∧ t.state = s.state ∧ (outputs t).busy = true ∧ t.result = s.result ∧
      t.bitIndex = s.bitIndex ∧ t.frame = s.frame ∧ (1 ≤ n → t.done = false)

/-- R233: the conditions under which an instance exists, and elaboration's refusal where one fails. That `step` refuses
such parameters too, and that both name the first failed check in the rule's order, is the model's choice (log 11). -/
def Obligations.AnIllegalConfigurationHasNoInstance : Prop :=
  (∀ p : Params, ParamsLegal p ↔
    (p.valueBits + p.signBits + p.checkBits = p.frameBits ∧ p.signBits = 1 ∧ 1 ≤ p.valueBits ∧ 1 ≤ p.checkBits ∧
      p.checkExpected < 2 ^ p.checkBits ∧ 1 ≤ p.scaleWidth ∧ 1 ≤ p.scaleFactor ∧
      p.scaleFactor ≤ 2 ^ p.scaleWidth - 1 ∧ (p.syncBits = 0 ∨ p.syncBits = 1) ∧ 1 ≤ p.syncStages ∧
      (p.gapThresholdDirect = none → 1 ≤ p.cyclesPerUs))) ∧
  (∀ p : Params, (ParamsLegal p ∧ elaborate p = .ok (State.resetOf p)) ∨
    (¬ ParamsLegal p ∧ ∃ e, elaborate p = .error e ∧ configProblem p = some e)) ∧
  (∀ (s : State) (e : ConfigError), step s = .refused (.configError e) ↔ configProblem s.params = some e)

/-- R236: reset first, then the timeout, then the state rule. -/
def Obligations.ResetThenTimeoutThenTheStateRule : Prop :=
  ∀ s t : State, step s = .next t →
    ((pinsNow s).rst = true →
      t.state = .idle ∧ t.done = false ∧ t.bitIndex = 0 ∧ t.frame = 0 ∧ t.result.status = .none) ∧
    ((pinsNow s).rst = false → isActive s.state = true →
      0 < s.params.stallTimeout → s.timeoutCount + 1 = s.params.stallTimeout →
      t.state = .idle ∧ t.done = true ∧ t.result.status = .stall ∧ t.frame = s.frame ∧ t.bitIndex = s.bitIndex) ∧
    ((pinsNow s).rst = false →
      ¬ (isActive s.state = true ∧ 0 < s.params.stallTimeout ∧ s.timeoutCount + 1 = s.params.stallTimeout) →
      ∃ u, exec (stateRow s.state) s = .next u ∧ t = endCycle u)

/-! ## The whole machine -/

/-- R84, R82, R112: a step runs the row that a word of the cycle decodes to, and around it only the end of the cycle:
the synchronizers shift and the next cycle begins. The model's choices are which word that is, the HOST word outermost
(log 8) but a reserved STATE word before it, under `rst` = 1 too (log 6), and the port list and the cycle number that
the end of a cycle moves on (log 4, log 5). -/
def Obligations.AStepRunsTheRowOfItsWord : Prop :=
  ∀ s : State, ParamsLegal s.params →
    (isReserved s.state = false →
      decode .host (2 * (if (pinsNow s).rst then 1 else 0) + (if (pinsNow s).readReq then 1 else 0))
        = .ok (fetch s)) ∧
    (isReserved s.state = true → decode .state (stateCode s.state).toNat = .ok (fetch s)) ∧
    (∀ u, exec (fetch s) s = .next u → step s = .next
      { u with
        clkSync := (clkPin u :: u.clkSync).take u.params.syncStages
        dataSync := (dataPin u :: u.dataSync).take u.params.syncStages
        inputs := u.inputs.tail
        cycle := u.cycle + 1 }) ∧
    (∀ f, exec (fetch s) s = .fault f → step s = .fault f)

/-- R84, R32, R170: the rows of the three formats that a cycle stands under all say the same of it. Which words a cycle
stands under is the model's choice: nested, the HOST word outermost (log 8), a reserved STATE word alone (log 6), and
a FRAME word under the default layout only (log 10). -/
def Obligations.EveryRowOfACycleTellsTheSameCycle : Prop :=
  ∀ (s : State) (f : Format) (w : Nat), ParamsLegal s.params → s.frame < 2 ^ s.params.frameBits →
    (f, w) ∈ cycleWords s → ∃ i, decode f w = .ok i ∧ step s = finish (exec i s)

/-- The row of a word placed for the next step is the row which that step runs. How a word is placed and how its
format is told from its width are the model's choices (log 4, log 9), as is what the cycle then stands under
(log 8). -/
def Obligations.APlacedWordIsRunByTheNextStep : Prop :=
  ∀ (s : State) (nbits w : Nat) (i : Instr), ParamsLegal s.params → hasDefaultLayout s.params = true →
    decodeTableWord nbits w = some i →
    (formatOf i, w) ∈ cycleWords (s.withFetchWord nbits w) ∧
    step (s.withFetchWord nbits w) = finish (exec i (s.withFetchWord nbits w))

/-- R32: the next value of the FSM state register, in every state. -/
def Obligations.TheStateRegisterTakesExactlyTheNextValueOfItsRule : Prop :=
  ∀ s t : State, step s = .next t → (pinsNow s).rst = false →
    t.state =
      if isActive s.state = true ∧ 0 < s.params.stallTimeout ∧ s.timeoutCount + 1 = s.params.stallTimeout then .idle
      else match s.state with
        | .idle => if (pinsNow s).readReq then .syncWaitHigh else .idle
        | .syncWaitHigh => if clockLevel s then .syncMeasure else .syncWaitHigh
        | .syncMeasure =>
          if clockLevel s then .syncMeasure
          else if gapThreshold s.params < s.gapCount then .bitWaitLowEnd else .syncWaitHigh
        | .bitWaitHighEnd => if clockLevel s then .bitWaitHighEnd else .bitWaitLowEnd
        | .bitWaitLowEnd =>
          if clockLevel s then (if s.bitIndex + 1 = s.params.frameBits then .decode else .bitWaitHighEnd)
          else .bitWaitLowEnd
        | .decode => .idle
        | .reserved6 => .reserved6
        | .reserved7 => .reserved7

/-- R38: `done` is 1 in the cycle after a DECODE or timeout cycle, and in no other. -/
def Obligations.DoneFollowsExactlyDecodeAndTheTimeout : Prop :=
  ∀ s t : State, step s = .next t →
    (t.done = true ↔ (pinsNow s).rst = false ∧
      (s.state = .decode ∨
        (isActive s.state = true ∧ 0 < s.params.stallTimeout ∧ s.timeoutCount + 1 = s.params.stallTimeout)))

/-- R40, R74, R234: between results and resets the result registers keep their value. -/
def Obligations.ResultsChangeOnlyWithDoneOrReset : Prop :=
  ∀ s t : State, step s = .next t → t.done = false → (pinsNow s).rst = false → t.result = s.result

/-- R204, R277: the cycle in which `done` = 1 accepts the next READ, and the result stays. -/
def Obligations.TheDoneCycleAcceptsTheNextRead : Prop :=
  ∀ s : State, Sound s → s.done = true → (pinsNow s).rst = false → (pinsNow s).readReq = true →
    (outputs s).busy = false ∧ ∃ t, step s = .next t ∧ t.state = .syncWaitHigh ∧ (outputs t).busy = true ∧
      t.done = false ∧ t.result = s.result

/-- R22: no step changes a parameter. -/
def Obligations.NoStepChangesAParameter : Prop :=
  ∀ s t : State, step s = .next t → t.params = s.params

/-- R48 and the widths of R33 to R40 hold after elaboration. -/
def Obligations.EveryInstanceStartsSound : Prop :=
  Sound State.reset ∧ ∀ (p : Params) (s : State), elaborate p = .ok s → Sound s

/-- R48: every step keeps the invariant. -/
def Obligations.EveryStepKeepsTheInvariant : Prop :=
  ∀ s t : State, Sound s → step s = .next t → Sound t

/-- R210, R48: a sound block never stops stepping, so the reserved states are never entered. -/
def Obligations.ASoundBlockNeverStops : Prop :=
  ∀ (s : State) (n : Nat), Sound s → ∃ t, runsTo n s t ∧ Sound t
end

