-- ==== Sys2Proof/Laws/Bits.lean ====
section
/-!
SUPPORT. What the bit helpers compute: writing one bit of a word, slicing a field, shifting a synchronizer.
-/
namespace Sys2Proof.Machine

/-- Writing bit i makes it the value written and leaves every other bit. -/
theorem testBit_writeBit (word i j : Nat) (v : Bool) :
    (writeBit word i v).testBit j = if j = i then v else word.testBit j := by
  unfold writeBit
  by_cases hv : word.testBit i = v
  · rw [if_pos hv]
    by_cases hj : j = i
    · subst hj; simp [hv]
    · simp [hj]
  · rw [if_neg hv]
    by_cases hj : j = i
    · subst hj
      have : (!word.testBit j) = v := by cases h : word.testBit j <;> cases v <;> simp_all
      simp [Nat.testBit_xor, Nat.testBit_two_pow_self, this]
    · have hj' : i ≠ j := fun h => hj h.symm
      simp [Nat.testBit_xor, Nat.testBit_two_pow_of_ne hj', hj]

/-- Writing a bit below the width keeps the width. -/
theorem writeBit_lt {word i w : Nat} (v : Bool) (h : word < 2 ^ w) (hi : i < w) : writeBit word i v < 2 ^ w := by
  unfold writeBit
  split
  · exact h
  · exact Nat.xor_lt_two_pow h (Nat.pow_lt_pow_right (by decide) hi)

end Sys2Proof.Machine

namespace Sys2Proof

/-- A field of `width` bits is below `2 ^ width`. -/
theorem bitSlice_lt (w lo width : Nat) : bitSlice w lo width < 2 ^ width :=
  Nat.mod_lt _ (Nat.two_pow_pos width)

/-- Bit i of a field is bit `lo + i` of the word. -/
theorem testBit_bitSlice (w lo width i : Nat) :
    (bitSlice w lo width).testBit i = (decide (i < width) && w.testBit (lo + i)) := by
  rw [bitSlice, Nat.testBit_mod_two_pow, Nat.testBit_div_two_pow, Nat.add_comm]

theorem bitValue_le_one (b : Bool) : bitValue b ≤ 1 := by cases b <;> decide

end Sys2Proof

namespace Sys2Proof.Machine

/-- A synchronizer of NS stages keeps NS stages. -/
theorem length_shiftStages {stages : Nat} {x : List Bool} (pin : Bool) (h : x.length = stages) :
    (shiftStages stages pin x).length = stages := by
  simp [shiftStages, h]

/-- Stage 0 takes the pin. -/
theorem shiftStages_zero {stages : Nat} (pin : Bool) (x : List Bool) (h : 0 < stages) :
    (shiftStages stages pin x)[0]? = some pin := by
  simp [shiftStages, h]

/-- Stage j + 1 takes what stage j held. -/
theorem shiftStages_succ {stages j : Nat} (pin : Bool) (x : List Bool) (h : j + 1 < stages) :
    (shiftStages stages pin x)[j + 1]? = x[j]? := by
  simp [shiftStages, h]

end Sys2Proof.Machine
end

