-- ==== Sys2Proof/Laws/State.lean ====
section
/-!
SUPPORT. One lemma per field of State per operation of Machine/Ops.lean, true by rfl, so that no proof unfolds a record update.
-/
namespace Sys2Proof.Machine


/-! ### `endCycle` -/

@[simp] theorem endCycle_params (s : State) : (endCycle s).params = s.params := rfl
@[simp] theorem endCycle_state (s : State) : (endCycle s).state = s.state := rfl
@[simp] theorem endCycle_bitIndex (s : State) : (endCycle s).bitIndex = s.bitIndex := rfl
@[simp] theorem endCycle_frame (s : State) : (endCycle s).frame = s.frame := rfl
@[simp] theorem endCycle_gapCount (s : State) : (endCycle s).gapCount = s.gapCount := rfl
@[simp] theorem endCycle_timeoutCount (s : State) : (endCycle s).timeoutCount = s.timeoutCount := rfl
@[simp] theorem endCycle_clkSync (s : State) : (endCycle s).clkSync = shiftStages s.params.syncStages (clkPin s) s.clkSync := rfl
@[simp] theorem endCycle_dataSync (s : State) : (endCycle s).dataSync = shiftStages s.params.syncStages (dataPin s) s.dataSync := rfl
@[simp] theorem endCycle_done (s : State) : (endCycle s).done = s.done := rfl
@[simp] theorem endCycle_result (s : State) : (endCycle s).result = s.result := rfl
@[simp] theorem endCycle_inputs (s : State) : (endCycle s).inputs = s.inputs.tail := rfl
@[simp] theorem endCycle_cycle (s : State) : (endCycle s).cycle = s.cycle + 1 := rfl

/-! ### `clearDone` -/

@[simp] theorem clearDone_params (s : State) : (clearDone s).params = s.params := rfl
@[simp] theorem clearDone_state (s : State) : (clearDone s).state = s.state := rfl
@[simp] theorem clearDone_bitIndex (s : State) : (clearDone s).bitIndex = s.bitIndex := rfl
@[simp] theorem clearDone_frame (s : State) : (clearDone s).frame = s.frame := rfl
@[simp] theorem clearDone_gapCount (s : State) : (clearDone s).gapCount = s.gapCount := rfl
@[simp] theorem clearDone_timeoutCount (s : State) : (clearDone s).timeoutCount = s.timeoutCount := rfl
@[simp] theorem clearDone_clkSync (s : State) : (clearDone s).clkSync = s.clkSync := rfl
@[simp] theorem clearDone_dataSync (s : State) : (clearDone s).dataSync = s.dataSync := rfl
@[simp] theorem clearDone_done (s : State) : (clearDone s).done = false := rfl
@[simp] theorem clearDone_result (s : State) : (clearDone s).result = s.result := rfl
@[simp] theorem clearDone_inputs (s : State) : (clearDone s).inputs = s.inputs := rfl
@[simp] theorem clearDone_cycle (s : State) : (clearDone s).cycle = s.cycle := rfl

/-! ### `resetRegisters` -/

@[simp] theorem resetRegisters_params (s : State) : (resetRegisters s).params = s.params := rfl
@[simp] theorem resetRegisters_state (s : State) : (resetRegisters s).state = .idle := rfl
@[simp] theorem resetRegisters_bitIndex (s : State) : (resetRegisters s).bitIndex = 0 := rfl
@[simp] theorem resetRegisters_frame (s : State) : (resetRegisters s).frame = 0 := rfl
@[simp] theorem resetRegisters_gapCount (s : State) : (resetRegisters s).gapCount = 0 := rfl
@[simp] theorem resetRegisters_timeoutCount (s : State) : (resetRegisters s).timeoutCount = 0 := rfl
@[simp] theorem resetRegisters_clkSync (s : State) : (resetRegisters s).clkSync = s.clkSync := rfl
@[simp] theorem resetRegisters_dataSync (s : State) : (resetRegisters s).dataSync = s.dataSync := rfl
@[simp] theorem resetRegisters_done (s : State) : (resetRegisters s).done = false := rfl
@[simp] theorem resetRegisters_result (s : State) : (resetRegisters s).result = noResult := rfl
@[simp] theorem resetRegisters_inputs (s : State) : (resetRegisters s).inputs = s.inputs := rfl
@[simp] theorem resetRegisters_cycle (s : State) : (resetRegisters s).cycle = s.cycle := rfl

/-! ### `accept` -/

@[simp] theorem accept_params (s : State) : (accept s).params = s.params := rfl
@[simp] theorem accept_state (s : State) : (accept s).state = .syncWaitHigh := rfl
@[simp] theorem accept_bitIndex (s : State) : (accept s).bitIndex = 0 := rfl
@[simp] theorem accept_frame (s : State) : (accept s).frame = 0 := rfl
@[simp] theorem accept_gapCount (s : State) : (accept s).gapCount = 0 := rfl
@[simp] theorem accept_timeoutCount (s : State) : (accept s).timeoutCount = 0 := rfl
@[simp] theorem accept_clkSync (s : State) : (accept s).clkSync = s.clkSync := rfl
@[simp] theorem accept_dataSync (s : State) : (accept s).dataSync = s.dataSync := rfl
@[simp] theorem accept_done (s : State) : (accept s).done = s.done := rfl
@[simp] theorem accept_result (s : State) : (accept s).result = s.result := rfl
@[simp] theorem accept_inputs (s : State) : (accept s).inputs = s.inputs := rfl
@[simp] theorem accept_cycle (s : State) : (accept s).cycle = s.cycle := rfl

/-! ### `deliver` -/

@[simp] theorem deliver_params (r : Result) (s : State) : (deliver r s).params = s.params := rfl
@[simp] theorem deliver_state (r : Result) (s : State) : (deliver r s).state = .idle := rfl
@[simp] theorem deliver_bitIndex (r : Result) (s : State) : (deliver r s).bitIndex = s.bitIndex := rfl
@[simp] theorem deliver_frame (r : Result) (s : State) : (deliver r s).frame = s.frame := rfl
@[simp] theorem deliver_gapCount (r : Result) (s : State) : (deliver r s).gapCount = s.gapCount := rfl
@[simp] theorem deliver_timeoutCount (r : Result) (s : State) : (deliver r s).timeoutCount = s.timeoutCount := rfl
@[simp] theorem deliver_clkSync (r : Result) (s : State) : (deliver r s).clkSync = s.clkSync := rfl
@[simp] theorem deliver_dataSync (r : Result) (s : State) : (deliver r s).dataSync = s.dataSync := rfl
@[simp] theorem deliver_done (r : Result) (s : State) : (deliver r s).done = true := rfl
@[simp] theorem deliver_result (r : Result) (s : State) : (deliver r s).result = r := rfl
@[simp] theorem deliver_inputs (r : Result) (s : State) : (deliver r s).inputs = s.inputs := rfl
@[simp] theorem deliver_cycle (r : Result) (s : State) : (deliver r s).cycle = s.cycle := rfl

/-! ### `stall` -/

@[simp] theorem stall_params (s : State) : (stall s).params = s.params := rfl
@[simp] theorem stall_state (s : State) : (stall s).state = .idle := rfl
@[simp] theorem stall_bitIndex (s : State) : (stall s).bitIndex = s.bitIndex := rfl
@[simp] theorem stall_frame (s : State) : (stall s).frame = s.frame := rfl
@[simp] theorem stall_gapCount (s : State) : (stall s).gapCount = 0 := rfl
@[simp] theorem stall_timeoutCount (s : State) : (stall s).timeoutCount = 0 := rfl
@[simp] theorem stall_clkSync (s : State) : (stall s).clkSync = s.clkSync := rfl
@[simp] theorem stall_dataSync (s : State) : (stall s).dataSync = s.dataSync := rfl
@[simp] theorem stall_done (s : State) : (stall s).done = true := rfl
@[simp] theorem stall_result (s : State) : (stall s).result = stallResult := rfl
@[simp] theorem stall_inputs (s : State) : (stall s).inputs = s.inputs := rfl
@[simp] theorem stall_cycle (s : State) : (stall s).cycle = s.cycle := rfl

/-! ### `startMeasure` -/

@[simp] theorem startMeasure_params (s : State) : (startMeasure s).params = s.params := rfl
@[simp] theorem startMeasure_state (s : State) : (startMeasure s).state = .syncMeasure := rfl
@[simp] theorem startMeasure_bitIndex (s : State) : (startMeasure s).bitIndex = s.bitIndex := rfl
@[simp] theorem startMeasure_frame (s : State) : (startMeasure s).frame = s.frame := rfl
@[simp] theorem startMeasure_gapCount (s : State) : (startMeasure s).gapCount = 1 := rfl
@[simp] theorem startMeasure_timeoutCount (s : State) : (startMeasure s).timeoutCount = s.timeoutCount := rfl
@[simp] theorem startMeasure_clkSync (s : State) : (startMeasure s).clkSync = s.clkSync := rfl
@[simp] theorem startMeasure_dataSync (s : State) : (startMeasure s).dataSync = s.dataSync := rfl
@[simp] theorem startMeasure_done (s : State) : (startMeasure s).done = s.done := rfl
@[simp] theorem startMeasure_result (s : State) : (startMeasure s).result = s.result := rfl
@[simp] theorem startMeasure_inputs (s : State) : (startMeasure s).inputs = s.inputs := rfl
@[simp] theorem startMeasure_cycle (s : State) : (startMeasure s).cycle = s.cycle := rfl

/-! ### `countHigh` -/

@[simp] theorem countHigh_params (s : State) : (countHigh s).params = s.params := rfl
@[simp] theorem countHigh_state (s : State) : (countHigh s).state = s.state := rfl
@[simp] theorem countHigh_bitIndex (s : State) : (countHigh s).bitIndex = s.bitIndex := rfl
@[simp] theorem countHigh_frame (s : State) : (countHigh s).frame = s.frame := rfl
@[simp] theorem countHigh_gapCount (s : State) : (countHigh s).gapCount = min (s.gapCount + 1) (gapThreshold s.params + 1) := rfl
@[simp] theorem countHigh_timeoutCount (s : State) : (countHigh s).timeoutCount = s.timeoutCount := rfl
@[simp] theorem countHigh_clkSync (s : State) : (countHigh s).clkSync = s.clkSync := rfl
@[simp] theorem countHigh_dataSync (s : State) : (countHigh s).dataSync = s.dataSync := rfl
@[simp] theorem countHigh_done (s : State) : (countHigh s).done = s.done := rfl
@[simp] theorem countHigh_result (s : State) : (countHigh s).result = s.result := rfl
@[simp] theorem countHigh_inputs (s : State) : (countHigh s).inputs = s.inputs := rfl
@[simp] theorem countHigh_cycle (s : State) : (countHigh s).cycle = s.cycle := rfl

/-! ### `rejectInterval` -/

@[simp] theorem rejectInterval_params (s : State) : (rejectInterval s).params = s.params := rfl
@[simp] theorem rejectInterval_state (s : State) : (rejectInterval s).state = .syncWaitHigh := rfl
@[simp] theorem rejectInterval_bitIndex (s : State) : (rejectInterval s).bitIndex = s.bitIndex := rfl
@[simp] theorem rejectInterval_frame (s : State) : (rejectInterval s).frame = s.frame := rfl
@[simp] theorem rejectInterval_gapCount (s : State) : (rejectInterval s).gapCount = 0 := rfl
@[simp] theorem rejectInterval_timeoutCount (s : State) : (rejectInterval s).timeoutCount = s.timeoutCount := rfl
@[simp] theorem rejectInterval_clkSync (s : State) : (rejectInterval s).clkSync = s.clkSync := rfl
@[simp] theorem rejectInterval_dataSync (s : State) : (rejectInterval s).dataSync = s.dataSync := rfl
@[simp] theorem rejectInterval_done (s : State) : (rejectInterval s).done = s.done := rfl
@[simp] theorem rejectInterval_result (s : State) : (rejectInterval s).result = s.result := rfl
@[simp] theorem rejectInterval_inputs (s : State) : (rejectInterval s).inputs = s.inputs := rfl
@[simp] theorem rejectInterval_cycle (s : State) : (rejectInterval s).cycle = s.cycle := rfl

/-! ### `endPulse` -/

@[simp] theorem endPulse_params (s : State) : (endPulse s).params = s.params := rfl
@[simp] theorem endPulse_state (s : State) : (endPulse s).state = .bitWaitLowEnd := rfl
@[simp] theorem endPulse_bitIndex (s : State) : (endPulse s).bitIndex = s.bitIndex := rfl
@[simp] theorem endPulse_frame (s : State) : (endPulse s).frame = s.frame := rfl
@[simp] theorem endPulse_gapCount (s : State) : (endPulse s).gapCount = s.gapCount := rfl
@[simp] theorem endPulse_timeoutCount (s : State) : (endPulse s).timeoutCount = s.timeoutCount := rfl
@[simp] theorem endPulse_clkSync (s : State) : (endPulse s).clkSync = s.clkSync := rfl
@[simp] theorem endPulse_dataSync (s : State) : (endPulse s).dataSync = s.dataSync := rfl
@[simp] theorem endPulse_done (s : State) : (endPulse s).done = s.done := rfl
@[simp] theorem endPulse_result (s : State) : (endPulse s).result = s.result := rfl
@[simp] theorem endPulse_inputs (s : State) : (endPulse s).inputs = s.inputs := rfl
@[simp] theorem endPulse_cycle (s : State) : (endPulse s).cycle = s.cycle := rfl

/-! ### `samplePoint` -/

@[simp] theorem samplePoint_params (s : State) : (samplePoint s).params = s.params := rfl
@[simp] theorem samplePoint_state (s : State) : (samplePoint s).state = stateAfterSample s.params.frameBits s.bitIndex := rfl
@[simp] theorem samplePoint_bitIndex (s : State) : (samplePoint s).bitIndex = s.bitIndex + 1 := rfl
@[simp] theorem samplePoint_frame (s : State) : (samplePoint s).frame = writeBit s.frame s.bitIndex (!dataLevel s) := rfl
@[simp] theorem samplePoint_gapCount (s : State) : (samplePoint s).gapCount = s.gapCount := rfl
@[simp] theorem samplePoint_timeoutCount (s : State) : (samplePoint s).timeoutCount = s.timeoutCount := rfl
@[simp] theorem samplePoint_clkSync (s : State) : (samplePoint s).clkSync = s.clkSync := rfl
@[simp] theorem samplePoint_dataSync (s : State) : (samplePoint s).dataSync = s.dataSync := rfl
@[simp] theorem samplePoint_done (s : State) : (samplePoint s).done = s.done := rfl
@[simp] theorem samplePoint_result (s : State) : (samplePoint s).result = s.result := rfl
@[simp] theorem samplePoint_inputs (s : State) : (samplePoint s).inputs = s.inputs := rfl
@[simp] theorem samplePoint_cycle (s : State) : (samplePoint s).cycle = s.cycle := rfl

/-! ### `countActive` -/

@[simp] theorem countActive_params (s : State) : (countActive s).params = s.params := rfl
@[simp] theorem countActive_state (s : State) : (countActive s).state = s.state := rfl
@[simp] theorem countActive_bitIndex (s : State) : (countActive s).bitIndex = s.bitIndex := rfl
@[simp] theorem countActive_frame (s : State) : (countActive s).frame = s.frame := rfl
@[simp] theorem countActive_gapCount (s : State) : (countActive s).gapCount = s.gapCount := rfl
@[simp] theorem countActive_timeoutCount (s : State) :
    (countActive s).timeoutCount = countedActive s.params.stallTimeout s.timeoutCount := rfl
@[simp] theorem countActive_clkSync (s : State) : (countActive s).clkSync = s.clkSync := rfl
@[simp] theorem countActive_dataSync (s : State) : (countActive s).dataSync = s.dataSync := rfl
@[simp] theorem countActive_done (s : State) : (countActive s).done = s.done := rfl
@[simp] theorem countActive_result (s : State) : (countActive s).result = s.result := rfl
@[simp] theorem countActive_inputs (s : State) : (countActive s).inputs = s.inputs := rfl
@[simp] theorem countActive_cycle (s : State) : (countActive s).cycle = s.cycle := rfl

/-! ### `declareSync` -/

@[simp] theorem declareSync_params (s : State) : (declareSync s).params = s.params := rfl
@[simp] theorem declareSync_state (s : State) : (declareSync s).state = .bitWaitLowEnd := rfl
@[simp] theorem declareSync_bitIndex (s : State) :
    (declareSync s).bitIndex = syncIndex s.params.syncBits s.bitIndex := rfl
@[simp] theorem declareSync_frame (s : State) :
    (declareSync s).frame = syncFrame s.params.syncBits s.frame (dataLevel s) := rfl
@[simp] theorem declareSync_gapCount (s : State) : (declareSync s).gapCount = 0 := rfl
@[simp] theorem declareSync_timeoutCount (s : State) : (declareSync s).timeoutCount = s.timeoutCount := rfl
@[simp] theorem declareSync_clkSync (s : State) : (declareSync s).clkSync = s.clkSync := rfl
@[simp] theorem declareSync_dataSync (s : State) : (declareSync s).dataSync = s.dataSync := rfl
@[simp] theorem declareSync_done (s : State) : (declareSync s).done = s.done := rfl
@[simp] theorem declareSync_result (s : State) : (declareSync s).result = s.result := rfl
@[simp] theorem declareSync_inputs (s : State) : (declareSync s).inputs = s.inputs := rfl
@[simp] theorem declareSync_cycle (s : State) : (declareSync s).cycle = s.cycle := rfl

/-! ### What a cycle reads, after operations that leave it alone -/

/-- The clock level depends on the synchronizer stages and their number only. -/
theorem clockLevel_congr {s t : State} (hc : t.clkSync = s.clkSync) (hp : t.params = s.params) :
    clockLevel t = clockLevel s := by
  simp only [clockLevel, hc, hp]

/-- The data level depends on the synchronizer stages and their number only. -/
theorem dataLevel_congr {s t : State} (hd : t.dataSync = s.dataSync) (hp : t.params = s.params) :
    dataLevel t = dataLevel s := by
  simp only [dataLevel, hd, hp]

/-- The ports depend on the pending list and the cycle number only. -/
theorem pinsNow_congr {s t : State} (hi : t.inputs = s.inputs) (hc : t.cycle = s.cycle) :
    pinsNow t = pinsNow s := by
  simp only [pinsNow, hi, hc]

@[simp] theorem clockLevel_clearDone (s : State) : clockLevel (clearDone s) = clockLevel s := rfl
@[simp] theorem dataLevel_clearDone (s : State) : dataLevel (clearDone s) = dataLevel s := rfl

@[simp] theorem clockLevel_countActive (s : State) : clockLevel (countActive s) = clockLevel s := rfl

@[simp] theorem dataLevel_countActive (s : State) : dataLevel (countActive s) = dataLevel s := rfl

end Sys2Proof.Machine
end

