-- ==== Sys2Proof/Laws/Ops.lean ====
section
/-!
SUPPORT. For each shared operation one lemma that says everything it can do.
-/
namespace Sys2Proof.Machine

/-- An active cycle either ends in the stall timeout or counts itself and applies the state rule. -/
theorem activeCycle_cases (rule : State → State) (s : State) :
    (timeoutFires s = true ∧ activeCycle rule s = stall s) ∨
    (timeoutFires s = false ∧ activeCycle rule s = rule (countActive (clearDone s))) := by
  unfold activeCycle
  cases h : timeoutFires s
  · exact .inr ⟨rfl, rfl⟩
  · exact .inl ⟨rfl, rfl⟩

/-- When the timeout fires. -/
theorem timeoutFires_iff (s : State) :
    timeoutFires s = true ↔ 0 < s.params.stallTimeout ∧ s.timeoutCount + 1 = s.params.stallTimeout := by
  simp [timeoutFires]

/-- SYNC_WAIT_HIGH's rule: a rising edge starts a measurement, a low level changes nothing. -/
theorem syncWaitHighRule_cases (s : State) :
    (clockLevel s = true ∧ syncWaitHighRule s = startMeasure s) ∨
    (clockLevel s = false ∧ syncWaitHighRule s = s) := by
  unfold syncWaitHighRule
  cases h : clockLevel s <;> simp

/-- SYNC_MEASURE's rule: the interval goes on, ends as a start gap, or ends as an ordinary pulse. -/
theorem syncMeasureRule_cases (s : State) :
    (clockLevel s = true ∧ syncMeasureRule s = countHigh s) ∨
    (clockLevel s = false ∧ gapThreshold s.params < s.gapCount ∧ syncMeasureRule s = declareSync s) ∨
    (clockLevel s = false ∧ s.gapCount ≤ gapThreshold s.params ∧ syncMeasureRule s = rejectInterval s) := by
  unfold syncMeasureRule
  cases h : clockLevel s
  · by_cases hg : gapThreshold s.params < s.gapCount
    · exact .inr (.inl ⟨rfl, hg, by simp [hg]⟩)
    · exact .inr (.inr ⟨rfl, Nat.le_of_not_lt hg, by simp [hg]⟩)
  · exact .inl ⟨rfl, by simp⟩

/-- BIT_WAIT_HIGH_END's rule: the pulse goes on or is over. -/
theorem bitWaitHighEndRule_cases (s : State) :
    (clockLevel s = true ∧ bitWaitHighEndRule s = s) ∨
    (clockLevel s = false ∧ bitWaitHighEndRule s = endPulse s) := by
  unfold bitWaitHighEndRule
  cases h : clockLevel s <;> simp

/-- BIT_WAIT_LOW_END's rule: a sample point, or no change. -/
theorem bitWaitLowEndRule_cases (s : State) :
    (clockLevel s = true ∧ bitWaitLowEndRule s = samplePoint s) ∨
    (clockLevel s = false ∧ bitWaitLowEndRule s = s) := by
  unfold bitWaitLowEndRule
  cases h : clockLevel s <;> simp

/-- The count of active cycles, with and without a timeout. -/
theorem countedActive_of_pos {stallTimeout : Nat} (h : 0 < stallTimeout) (n : Nat) :
    countedActive stallTimeout n = n + 1 := if_neg (Nat.ne_of_gt h)

@[simp] theorem countedActive_zero (n : Nat) : countedActive 0 n = n := rfl

/-- What sync declared does to the frame and the bit index, for each value of SB. -/
@[simp] theorem syncFrame_zero (frame : Nat) (d : Bool) : syncFrame 0 frame d = frame := rfl
@[simp] theorem syncFrame_one (frame : Nat) (d : Bool) : syncFrame 1 frame d = writeBit frame 0 (!d) := rfl
@[simp] theorem syncIndex_zero (bitIndex : Nat) : syncIndex 0 bitIndex = bitIndex := rfl
@[simp] theorem syncIndex_one (bitIndex : Nat) : syncIndex 1 bitIndex = 1 := rfl

/-- A sample point goes to DECODE exactly when it fills the frame. -/
theorem stateAfterSample_cases (frameBits bitIndex : Nat) :
    (bitIndex + 1 = frameBits ∧ stateAfterSample frameBits bitIndex = .decode) ∨
    (bitIndex + 1 ≠ frameBits ∧ stateAfterSample frameBits bitIndex = .bitWaitHighEnd) := by
  unfold stateAfterSample
  by_cases h : bitIndex + 1 = frameBits
  · exact .inl ⟨h, if_pos h⟩
  · exact .inr ⟨h, if_neg h⟩

/-- What DECODE can load. -/
theorem decodeResult_cases (p : Params) (frame : Nat) :
    (checkField p frame = p.checkExpected ∧
      decodeResult p frame = okResult p (signField p frame) (valueField p frame)) ∨
    (checkField p frame ≠ p.checkExpected ∧ decodeResult p frame = invalidResult) := by
  unfold decodeResult
  by_cases h : checkField p frame = p.checkExpected
  · exact .inl ⟨h, if_pos h⟩
  · exact .inr ⟨h, if_neg h⟩

/-- The value field fits the magnitude output. -/
theorem valueField_lt (p : Params) (frame : Nat) : valueField p frame < 2 ^ p.valueBits := bitSlice_lt _ _ _

/-- The quotient is at most the magnitude. -/
theorem scaledQuotient_le (p : Params) (m : Nat) : scaledQuotient p m ≤ m := Nat.div_le_self _ _

/-- Legal parameters, condition by condition. -/
theorem paramsLegal_facts {p : Params} (h : ParamsLegal p) :
    p.valueBits + p.signBits + p.checkBits = p.frameBits ∧ p.signBits = 1 ∧ 1 ≤ p.valueBits ∧ 1 ≤ p.checkBits ∧
    p.checkExpected < 2 ^ p.checkBits ∧ 1 ≤ p.scaleFactor ∧ p.scaleFactor < 2 ^ p.scaleWidth ∧
    p.syncBits ≤ 1 ∧ 1 ≤ p.syncStages := by
  unfold ParamsLegal configProblem at h
  split at h; · cases h
  split at h; · cases h
  split at h; · cases h
  split at h; · cases h
  split at h; · cases h
  split at h; · cases h
  split at h; · cases h
  omega

end Sys2Proof.Machine
end

