-- ==== Sys2Proof/Laws/PerInstr.lean ====
section
/-!
SUPPORT. Statements made for every instruction, one lemma per constructor: the word of a well-formed instruction
has its format's width (30_encoding.md R80, R82, R84, R90).
-/
namespace Sys2Proof.Laws

/-- How many bits the words of a format have: 2, 3 and 24. -/
def formatWidth : Format → Nat
  | .host => 2
  | .state => 3
  | .frame => 24

/-- A frame word with a 3-bit check field and a 20-bit value has 24 bits. -/
theorem frameWord_lt {check value : Nat} (sign : Bool) (hc : check < 8) (hv : value < 1048576) :
    frameWord 20 check sign value < 2 ^ 24 := by
  have := bitValue_le_one sign
  simp only [frameWord]
  omega

/-- `encode i` has the width of its format. -/
def WordInFormat.Statement (i : Instr) : Prop :=
  i.wellFormed = true → encode i < 2 ^ formatWidth (formatOf i)

theorem WordInFormat.reset (q : Bool) : WordInFormat.Statement (.reset q) := fun _ => by cases q <;> decide
theorem WordInFormat.read : WordInFormat.Statement .read := fun _ => by decide
theorem WordInFormat.noCommand : WordInFormat.Statement .noCommand := fun _ => by decide
theorem WordInFormat.idle : WordInFormat.Statement .idle := fun _ => by decide
theorem WordInFormat.syncWaitHigh : WordInFormat.Statement .syncWaitHigh := fun _ => by decide
theorem WordInFormat.syncMeasure : WordInFormat.Statement .syncMeasure := fun _ => by decide
theorem WordInFormat.bitWaitHighEnd : WordInFormat.Statement .bitWaitHighEnd := fun _ => by decide
theorem WordInFormat.bitWaitLowEnd : WordInFormat.Statement .bitWaitLowEnd := fun _ => by decide
theorem WordInFormat.decode : WordInFormat.Statement .decode := fun _ => by decide
theorem WordInFormat.reserved6 : WordInFormat.Statement .reserved6 := fun _ => by decide
theorem WordInFormat.reserved7 : WordInFormat.Statement .reserved7 := fun _ => by decide

theorem WordInFormat.validPos (v : Nat) : WordInFormat.Statement (.validPos v) := fun h =>
  frameWord_lt false (by decide) (of_decide_eq_true h)

theorem WordInFormat.validNeg (v : Nat) : WordInFormat.Statement (.validNeg v) := fun h =>
  frameWord_lt true (by decide) (of_decide_eq_true h)

theorem WordInFormat.invalidC0 (b : Bool) (v : Nat) : WordInFormat.Statement (.invalidC0 b v) := fun h =>
  frameWord_lt b (by decide) (of_decide_eq_true h)

theorem WordInFormat.invalidC1 (b : Bool) (v : Nat) : WordInFormat.Statement (.invalidC1 b v) := fun h =>
  frameWord_lt b (by decide) (of_decide_eq_true h)

theorem WordInFormat.invalidC2 (b : Bool) (v : Nat) : WordInFormat.Statement (.invalidC2 b v) := fun h =>
  frameWord_lt b (by decide) (of_decide_eq_true h)

theorem WordInFormat.invalidC3 (b : Bool) (v : Nat) : WordInFormat.Statement (.invalidC3 b v) := fun h =>
  frameWord_lt b (by decide) (of_decide_eq_true h)

theorem WordInFormat.invalidC5 (b : Bool) (v : Nat) : WordInFormat.Statement (.invalidC5 b v) := fun h =>
  frameWord_lt b (by decide) (of_decide_eq_true h)

theorem WordInFormat.invalidC6 (b : Bool) (v : Nat) : WordInFormat.Statement (.invalidC6 b v) := fun h =>
  frameWord_lt b (by decide) (of_decide_eq_true h)

theorem WordInFormat.invalidC7 (b : Bool) (v : Nat) : WordInFormat.Statement (.invalidC7 b v) := fun h =>
  frameWord_lt b (by decide) (of_decide_eq_true h)

end Sys2Proof.Laws
end

