-- ==== Sys2Proof/Laws/Step.lean ====
section
/-!
SUPPORT. What one step can do, said once: the inversion of `step`, and what no row of the table touches.
-/
namespace Sys2Proof.Machine

/-- A cycle without reset runs the meaning of its state, and one that gives a next state is in none of the reserved
codes. -/
theorem stateCycle_cases {request : Bool} {s u : State} (h : stateCycle request s = .next u) :
    (s.state = .idle ∧ u = idleCycle request s) ∨
    (s.state = .syncWaitHigh ∧ u = activeCycle syncWaitHighRule s) ∨
    (s.state = .syncMeasure ∧ u = activeCycle syncMeasureRule s) ∨
    (s.state = .bitWaitHighEnd ∧ u = activeCycle bitWaitHighEndRule s) ∨
    (s.state = .bitWaitLowEnd ∧ u = activeCycle bitWaitLowEndRule s) ∨
    (s.state = .decode ∧ u = deliver (decodeResult s.params s.frame) s) := by
  unfold stateCycle at h
  split at h <;>
    simp_all [execSyncWaitHigh, execSyncMeasure, execBitWaitHighEnd, execBitWaitLowEnd, execDecode, execReserved6,
      execReserved7]

/-- `finish` gives a next state exactly from a next state. -/
theorem finish_eq_next {o : Host.Outcome State Fault Refusal} {t : State} (h : finish o = .next t) :
    ∃ u, o = .next u ∧ t = endCycle u := by
  cases o with
  | next u => exact ⟨u, rfl, by simpa [finish] using h.symm⟩
  | fault f => cases h
  | refused r => cases h

/-- Everything a step that answers a next state can have done. -/
theorem step_cases {s t : State} (h : step s = .next t) :
    ParamsLegal s.params ∧ isReserved s.state = false ∧ ∃ u, t = endCycle u ∧
    (((pinsNow s).rst = true ∧ u = resetRegisters s) ∨
     ((pinsNow s).rst = false ∧ s.state = .idle ∧ u = idleCycle (pinsNow s).readReq s) ∨
     ((pinsNow s).rst = false ∧ s.state = .syncWaitHigh ∧ u = activeCycle syncWaitHighRule s) ∨
     ((pinsNow s).rst = false ∧ s.state = .syncMeasure ∧ u = activeCycle syncMeasureRule s) ∨
     ((pinsNow s).rst = false ∧ s.state = .bitWaitHighEnd ∧ u = activeCycle bitWaitHighEndRule s) ∨
     ((pinsNow s).rst = false ∧ s.state = .bitWaitLowEnd ∧ u = activeCycle bitWaitLowEndRule s) ∨
     ((pinsNow s).rst = false ∧ s.state = .decode ∧ u = deliver (decodeResult s.params s.frame) s)) := by
  unfold step at h
  cases hp : configProblem s.params with
  | some e => rw [hp] at h; cases h
  | none =>
    rw [hp] at h
    obtain ⟨u, hu, rfl⟩ := finish_eq_next h
    refine ⟨hp, ?_⟩
    unfold fetch at hu
    cases hr : isReserved s.state with
    | true =>
      cases hs : s.state <;> rw [hs] at hr <;> first | (cases hr; done) | skip
      all_goals (rw [hs] at hu; cases hu)
    | false =>
      rw [hr] at hu
      refine ⟨rfl, u, rfl, ?_⟩
      cases hrst : (pinsNow s).rst with
      | true =>
        rw [hrst] at hu
        have : u = resetRegisters s := by simpa [hostRow, exec, execReset] using hu.symm
        exact .inl ⟨rfl, this⟩
      | false =>
        rw [hrst] at hu
        have hu' : stateCycle (pinsNow s).readReq s = .next u := by
          cases hq : (pinsNow s).readReq <;> rw [hq] at hu <;>
            simpa [hostRow, exec, execRead, execNoCommand] using hu
        rcases stateCycle_cases hu' with h1 | h1 | h1 | h1 | h1 | h1 <;> simp [h1]

/-- No operation of a cycle touches the parameters, the synchronizer stages or the ports. -/
abbrev SameWires (s u : State) : Prop :=
  u.params = s.params ∧ u.clkSync = s.clkSync ∧ u.dataSync = s.dataSync ∧ u.inputs = s.inputs ∧ u.cycle = s.cycle

/-- An active cycle leaves the wires alone if its rule does. -/
theorem activeCycle_sameWires {rule : State → State} (hr : ∀ s, SameWires s (rule s)) (s : State) :
    SameWires s (activeCycle rule s) := by
  rcases activeCycle_cases rule s with ⟨-, h⟩ | ⟨-, h⟩
  · rw [h]; simp [SameWires]
  · rw [h]
    have := hr (countActive (clearDone s))
    simpa [SameWires] using this

theorem syncWaitHighRule_sameWires (s : State) : SameWires s (syncWaitHighRule s) := by
  rcases syncWaitHighRule_cases s with ⟨-, h⟩ | ⟨-, h⟩ <;> rw [h] <;> simp [SameWires]

theorem syncMeasureRule_sameWires (s : State) : SameWires s (syncMeasureRule s) := by
  rcases syncMeasureRule_cases s with ⟨-, h⟩ | ⟨-, -, h⟩ | ⟨-, -, h⟩ <;> rw [h] <;> simp [SameWires]

theorem bitWaitHighEndRule_sameWires (s : State) : SameWires s (bitWaitHighEndRule s) := by
  rcases bitWaitHighEndRule_cases s with ⟨-, h⟩ | ⟨-, h⟩ <;> rw [h] <;> simp [SameWires]

theorem bitWaitLowEndRule_sameWires (s : State) : SameWires s (bitWaitLowEndRule s) := by
  rcases bitWaitLowEndRule_cases s with ⟨-, h⟩ | ⟨-, h⟩ <;> rw [h] <;> simp [SameWires]

theorem idleCycle_sameWires (request : Bool) (s : State) : SameWires s (idleCycle request s) := by
  cases request <;> simp [SameWires, idleCycle, idleRule]

/-- No cycle without reset touches the parameters, the synchronizer stages or the ports before its end. -/
theorem stateCycle_sameWires {request : Bool} {s u : State} (h : stateCycle request s = .next u) :
    SameWires s u := by
  rcases stateCycle_cases h with ⟨-, rfl⟩ | ⟨-, rfl⟩ | ⟨-, rfl⟩ | ⟨-, rfl⟩ | ⟨-, rfl⟩ | ⟨-, rfl⟩
  · exact idleCycle_sameWires _ _
  · exact activeCycle_sameWires syncWaitHighRule_sameWires _
  · exact activeCycle_sameWires syncMeasureRule_sameWires _
  · exact activeCycle_sameWires bitWaitHighEndRule_sameWires _
  · exact activeCycle_sameWires bitWaitLowEndRule_sameWires _
  · simp [SameWires]

end Sys2Proof.Machine
end

