-- ==== Sys2Proof/Laws/Run.lean ====
section
/-!
SUPPORT. Runs of several cycles: how they compose, that they are deterministic, how a step begins, and the small
lemmas of rising cycles and of the timeout over several cycles.
-/
namespace Sys2Proof.Machine

@[simp] theorem runsTo_zero {s t : State} : runsTo 0 s t ↔ s = t := by
  simp [runsTo, run]

/-- A run is a step and then a run. -/
theorem runsTo_succ {n : Nat} {s t : State} : runsTo (n + 1) s t ↔ ∃ u, step s = .next u ∧ runsTo n u t := by
  cases h : step s <;> simp [runsTo, run, h]

theorem runsTo_one {s t : State} : runsTo 1 s t ↔ step s = .next t := by
  rw [runsTo_succ]; simp

/-- Runs compose. -/
theorem runsTo_add {m n : Nat} {s t : State} : runsTo (m + n) s t ↔ ∃ u, runsTo m s u ∧ runsTo n u t := by
  induction m generalizing s with
  | zero => simp
  | succ m ih =>
    rw [Nat.add_right_comm, runsTo_succ]
    simp only [ih, runsTo_succ]
    constructor
    · rintro ⟨u, h, v, h1, h2⟩
      exact ⟨v, ⟨u, h, h1⟩, h2⟩
    · rintro ⟨v, ⟨u, h, h1⟩, h2⟩
      exact ⟨u, h, v, h1, h2⟩

/-- A run is a run and then a step. -/
theorem runsTo_snoc {n : Nat} {s t : State} : runsTo (n + 1) s t ↔ ∃ u, runsTo n s u ∧ step u = .next t := by
  rw [runsTo_add]; simp only [runsTo_one]

/-- A run ends in one state. -/
theorem runsTo_det {n : Nat} {s t t' : State} (h : runsTo n s t) (h' : runsTo n s t') : t = t' := by
  unfold runsTo at h h'
  rw [h] at h'
  exact Host.Outcome.next.inj h'

@[simp] theorem risingCycles_zero (c : Nat → Bool) : risingCycles c 0 = [] := rfl

/-- One more cycle adds itself where it is a rising cycle, and nothing otherwise. -/
theorem risingCycles_succ (c : Nat → Bool) (n : Nat) :
    risingCycles c (n + 1) = risingCycles c n ++ if isRising c n then [n] else [] := by
  simp only [risingCycles, List.range_succ, List.filter_append]
  cases h : isRising c n <;> simp [h]

/-- Where the timeout fires in none of the next cycles, it does not fire in this one. -/
theorem timeoutFires_of_noTimeoutWithin {n : Nat} {s : State} (h : NoTimeoutWithin (n + 1) s) :
    timeoutFires s = false := by
  simp only [timeoutFires, decide_eq_false_iff_not]
  omega

/-- A step of legal parameters is the fetched row and the end of the cycle. -/
theorem step_eq_finish {s : State} (h : ParamsLegal s.params) : step s = finish (exec (fetch s) s) := by
  unfold step
  rw [show configProblem s.params = none from h]

/-- A step without reset, from a state that is not reserved, is a cycle of its state. -/
theorem step_eq_stateCycle {s : State} (h : ParamsLegal s.params) (hr : isReserved s.state = false)
    (h1 : (pinsNow s).rst = false) : step s = finish (stateCycle (pinsNow s).readReq s) := by
  rw [step_eq_finish h]
  cases hq : (pinsNow s).readReq <;> simp [fetch, hr, h1, hq, hostRow, exec, execRead, execNoCommand]

/-- A reset cycle, from a state that is not reserved. -/
theorem step_eq_reset {s : State} (h : ParamsLegal s.params) (hr : isReserved s.state = false)
    (h1 : (pinsNow s).rst = true) : step s = .next (endCycle (resetRegisters s)) := by
  rw [step_eq_finish h]
  simp [fetch, hr, h1, hostRow, exec, execReset, finish]

end Sys2Proof.Machine
end

