-- ==== Sys2Proof/Tests/Slice0.lean ====
section
/-!
SUPPORT. The model's own tests. Expected values come from spec/95_test_vectors.md (named V-… and L1-…) and from the
encodings of spec/30_encoding.md and spec/opcode_table.json, never from the model. The `witness_…` theorems show, for
each statement of Certificates/Slice0/Obligations.lean that has hypotheses, states and operands that meet them.
-/
namespace Sys2Proof.Tests

open Sys2Proof Sys2Proof.Machine

/-! ## Helpers -/

/-- GT = 3, S = 100, NS = 1, everything else at its default. -/
def gap3 : Params := { cyclesPerUs := 1, gapThresholdDirect := some 3, scaleFactor := 100, syncStages := 1 }

/-- No command, both lines held high. -/
def quiet : Pins := { rst := false, readReq := false, calClk := .high, calData := .high }

/-- A state of the instance p with its FSM state and last levels c and d, and one quiet cycle pending. -/
def at_ (p : Params) (st : FsmState) (c d : Bool) : State :=
  { State.resetOf p with
    state := st
    clkSync := List.replicate p.syncStages c
    dataSync := List.replicate p.syncStages d
    inputs := [quiet] }

/-- A DECODE state of an instance with scale factor S, holding a frame. -/
def decoding (scale frame : Nat) : State :=
  { at_ { gap3 with scaleFactor := scale } .decode true true with frame := frame, bitIndex := 24 }

/-- The next state, where there is one. -/
def nextOf : Host.Outcome State Fault Refusal → Option State
  | .next t => some t
  | .fault _ => none
  | .refused _ => none

/-- The state after n cycles, where no cycle stopped the machine. -/
def after (n : Nat) (s : State) : Option State := nextOf (run n s)

theorem after_of_runsTo {n : Nat} {s t : State} (h : runsTo n s t) : after n s = some t := by
  simp only [after, show run n s = .next t from h, nextOf]

/-- What holds of every state that a run passes, by evaluation. -/
theorem holds_along {n : Nat} {s : State} {P : Nat → State → Prop}
    (h : ∀ k < n, ∀ u ∈ after k s, P k u) : ∀ k < n, ∀ u, runsTo k s u → P k u :=
  fun k hk _ hu => h k hk _ (after_of_runsTo hu)

/-! ## WellFormed and elaboration: one ill-formed term for each check -/

theorem test_value_too_wide_pos : (Instr.validPos 0x100000).wellFormed = false := by decide
theorem test_value_too_wide_neg : (Instr.validNeg 0x100000).wellFormed = false := by decide
theorem test_value_too_wide_c0 : (Instr.invalidC0 true 0x100000).wellFormed = false := by decide
theorem test_value_too_wide_c1 : (Instr.invalidC1 true 0x100000).wellFormed = false := by decide
theorem test_value_too_wide_c2 : (Instr.invalidC2 true 0x100000).wellFormed = false := by decide
theorem test_value_too_wide_c3 : (Instr.invalidC3 true 0x100000).wellFormed = false := by decide
theorem test_value_too_wide_c5 : (Instr.invalidC5 true 0x100000).wellFormed = false := by decide
theorem test_value_too_wide_c6 : (Instr.invalidC6 true 0x100000).wellFormed = false := by decide
theorem test_value_too_wide_c7 : (Instr.invalidC7 true 0x100000).wellFormed = false := by decide
theorem test_widest_value : (Instr.validNeg 0x0FFFFF).wellFormed = true := by decide

-- V-X8 and 60_exceptions.md R233
theorem test_layout_sum : configProblem { gap3 with frameBits := 25 } = some .layoutSum := by decide
theorem test_check_four_bits : configProblem { gap3 with checkBits := 4 } = some .layoutSum := by decide -- L1-11
theorem test_sign_width : configProblem { gap3 with signBits := 2, frameBits := 25 } = some .signWidth := by decide
theorem test_field_width : configProblem { gap3 with valueBits := 0, frameBits := 4 } = some .fieldWidth := by decide
theorem test_check_expected : configProblem { gap3 with checkExpected := 8 } = some .checkExpectedRange := by decide
theorem test_scale_zero : configProblem { gap3 with scaleFactor := 0 } = some .scaleFactorRange := by decide
theorem test_scale_wide : configProblem { gap3 with scaleFactor := 4294967296 } = some .scaleFactorRange := by decide
theorem test_sync_bits : configProblem { gap3 with syncBits := 2 } = some .syncBitsRange := by decide
theorem test_sync_stages : configProblem { gap3 with syncStages := 0 } = some .syncStagesRange := by decide
theorem test_clock_rate :
    configProblem { gap3 with gapThresholdDirect := none, cyclesPerUs := 0 } = some .clockRate := by decide
theorem test_legal : configProblem { gap3 with scaleFactor := 4294967295 } = none := by decide

/-! ## Decoding: a word of each row, bits from opcode_table.json -/

theorem test_decode_reset : decode .host 0b10 = .ok (.reset false) := by rfl
theorem test_decode_reset_q : decode .host 0b11 = .ok (.reset true) := by rfl -- V-E8
theorem test_decode_read : decode .host 0b01 = .ok .read := by rfl
theorem test_decode_none : decode .host 0b00 = .ok .noCommand := by rfl
theorem test_decode_host_wide : decode .host 0b100 = .error .notAHostCommand := by rfl
theorem test_decode_idle : decode .state 0b000 = .ok .idle := by rfl
theorem test_decode_sync_wait_high : decode .state 0b001 = .ok .syncWaitHigh := by rfl
theorem test_decode_sync_measure : decode .state 0b010 = .ok .syncMeasure := by rfl
theorem test_decode_bit_wait_high_end : decode .state 0b011 = .ok .bitWaitHighEnd := by rfl
theorem test_decode_bit_wait_low_end : decode .state 0b100 = .ok .bitWaitLowEnd := by rfl
theorem test_decode_decode : decode .state 0b101 = .ok .decode := by rfl
theorem test_decode_reserved6 : decode .state 0b110 = .ok .reserved6 := by rfl
theorem test_decode_reserved7 : decode .state 0b111 = .ok .reserved7 := by rfl
theorem test_decode_state_wide : decode .state 0b1000 = .error .notAStateCode := by rfl
-- 1000 0000 0000 0000 1001 0110 and so on, V-E6
theorem test_decode_valid_pos : decode .frame 0b100000000000000010010110 = .ok (.validPos 150) := by rfl
theorem test_decode_valid_neg : decode .frame 0b100100000000000010010110 = .ok (.validNeg 150) := by rfl
theorem test_decode_c0 : decode .frame 0b000000000000000010010110 = .ok (.invalidC0 false 150) := by rfl
theorem test_decode_c1 : decode .frame 0b001000000000000010010110 = .ok (.invalidC1 false 150) := by rfl
theorem test_decode_c2 : decode .frame 0b010000000000000010010110 = .ok (.invalidC2 false 150) := by rfl
theorem test_decode_c3 : decode .frame 0b011000000000000010010110 = .ok (.invalidC3 false 150) := by rfl
theorem test_decode_c5 : decode .frame 0b101000000000000010010110 = .ok (.invalidC5 false 150) := by rfl
theorem test_decode_c6 : decode .frame 0b110000000000000010010110 = .ok (.invalidC6 false 150) := by rfl
theorem test_decode_c7 : decode .frame 0b111000000000000010010110 = .ok (.invalidC7 false 150) := by rfl
theorem test_decode_c5_sign : decode .frame 0xB00096 = .ok (.invalidC5 true 150) := by rfl -- V-D4
theorem test_decode_not_inverted : decode .frame 0x7FFF69 = .ok (.invalidC3 true 0xFFF69) := by rfl -- V-E7
theorem test_decode_all_ones : decode .frame 0xFFFFFF = .ok (.invalidC7 true 0xFFFFF) := by rfl -- V-E5
theorem test_decode_frame_wide : decode .frame 0x1000000 = .error .notAFrame := by rfl

/-! ## The host's two questions, on one word of each format -/

theorem test_table_word_host : decodeTableWord 2 0b10 = some (.reset false) := by rfl
theorem test_table_word_state : decodeTableWord 8 0b100 = some .bitWaitLowEnd := by rfl
theorem test_table_word_frame : decodeTableWord 24 0x800096 = some (.validPos 150) := by rfl

theorem test_fetched_read_runs :
    (nextOf (step (State.reset.withFetchWord 2 0b01))).map (·.state) = some .syncWaitHigh := by rfl

theorem test_fetched_sync_measure_runs :
    (nextOf (step (State.reset.withFetchWord 3 0b010))).map (·.state) = some .syncWaitHigh := by rfl

theorem test_fetched_frame_runs :
    (nextOf (step (State.reset.withFetchWord 24 0x800096))).map (·.result)
      = some { status := .ok, sign := false, magnitude := 150, quotient := 1, remainder := 50 } := by rfl

theorem test_fetched_reserved_faults : step (State.reset.withFetchWord 3 0b110) = .fault .reservedState := by rfl

/-! ## Host commands and IDLE -/

-- V-R1's reset cycle and R260's example: BIT_WAIT_LOW_END, bitIndex = 7, rst = 1
theorem test_reset_mid_frame :
    (nextOf (exec (.reset true) { at_ gap3 .bitWaitLowEnd true false with bitIndex := 7, frame := 3 })).map
      (fun t => (t.state, t.bitIndex, t.frame, t.result.status)) = some (.idle, 0, 0, .none) := by decide

-- V-R2: reset in the DECODE cycle discards the result
theorem test_reset_in_decode :
    (nextOf (step { decoding 100 0x800096 with inputs := [{ quiet with rst := true }] })).map
      (fun t => (t.state, t.done, t.result.status)) = some (.idle, false, .none) := by decide

-- V-H1
theorem test_read_in_idle :
    (nextOf (exec .read { at_ gap3 .idle false true with bitIndex := 24, frame := 0x800096 })).map
      (fun t => (t.state, t.bitIndex, t.frame)) = some (.syncWaitHigh, 0, 0) := by decide

-- V-H3
theorem test_read_lost_in_sync_measure :
    nextOf (exec .read (at_ gap3 .syncMeasure true true)) = nextOf (exec .noCommand (at_ gap3 .syncMeasure true true)) := by
  decide

-- V-H2
theorem test_none_in_idle :
    (nextOf (exec .noCommand (at_ gap3 .idle true true))).map (fun t => (t.state, t.done)) = some (.idle, false) := by decide

-- R200's example
theorem test_idle_with_request :
    (nextOf (exec .idle { at_ gap3 .idle true true with inputs := [{ quiet with readReq := true }] })).map
      (fun t => (t.state, busy t)) = some (.syncWaitHigh, true) := by decide

-- V-E9
theorem test_reserved6_faults : step { at_ gap3 .reserved6 true true with inputs := [{ quiet with rst := true }] }
    = .fault .reservedState := by rfl

theorem test_reserved7_faults : exec .reserved7 (at_ gap3 .reserved7 true true) = .fault .reservedState := by rfl

/-! ## FrameSynchronizer -/

-- V-S1 cycle 2 and cycle 1
theorem test_sync_wait_high_rise :
    (nextOf (exec .syncWaitHigh (at_ gap3 .syncWaitHigh true true))).map (fun t => (t.state, t.gapCount))
      = some (.syncMeasure, 1) := by decide

-- V-X2: TO = 1 fires in the first active cycle
theorem test_timeout_one :
    (nextOf (exec .syncWaitHigh (at_ { gap3 with stallTimeout := 1 } .syncWaitHigh true true))).map
      (fun t => (t.state, t.done, t.result.status)) = some (.idle, true, .stall) := by decide

-- V-S1 cycle 5: 3 high cycles are no gap at GT = 3; cycle 10: 4 are
theorem test_sync_measure_boundary :
    ((nextOf (exec .syncMeasure { at_ gap3 .syncMeasure false true with gapCount := 3 })).map (·.state),
     (nextOf (exec .syncMeasure { at_ gap3 .syncMeasure false true with gapCount := 4 })).map (·.state))
      = (some .syncWaitHigh, some .bitWaitLowEnd) := by decide

-- V-S7
theorem test_sync_declared_first_bit :
    (nextOf (exec .syncMeasure
      { at_ { gap3 with syncBits := 1 } .syncMeasure false false with gapCount := 4 })).map
      (fun t => (t.frame, t.bitIndex)) = some (1, 1) := by decide

/-! ## BitSampler -/

-- V-B6
theorem test_bit_wait_high_end_falls :
    (nextOf (exec .bitWaitHighEnd (at_ gap3 .bitWaitHighEnd false true))).map (·.state) = some .bitWaitLowEnd := by decide

-- V-B1
theorem test_sample_one :
    (nextOf (exec .bitWaitLowEnd { at_ gap3 .bitWaitLowEnd true false with bitIndex := 3 })).map
      (fun t => (t.frame, t.bitIndex, t.state)) = some (8, 4, .bitWaitHighEnd) := by decide

-- V-B3, with V-X6: TO = 53 lets the last sample point happen in cycle 52
theorem test_last_sample :
    (nextOf (exec .bitWaitLowEnd { at_ { gap3 with stallTimeout := 53 } .bitWaitLowEnd true false with
        bitIndex := 23, frame := 0x96, timeoutCount := 51 })).map
      (fun t => (t.frame, t.bitIndex, t.state, t.timeoutCount)) = some (0x800096, 24, .decode, 52) := by decide

-- V-X5: TO = 52 wins over the last sample point; bitIndex stays 23
theorem test_timeout_beats_last_sample :
    (nextOf (exec .bitWaitLowEnd { at_ { gap3 with stallTimeout := 52 } .bitWaitLowEnd true false with
        bitIndex := 23, frame := 0x96, timeoutCount := 51 })).map
      (fun t => (t.bitIndex, t.state, t.result.status)) = some (23, .idle, .stall) := by decide

/-! ## FrameDecoder and scaler -/

-- V-D15 and V-D9
theorem test_decode_1234_56 :
    (nextOf (exec .decode (decoding 100 0x81E240))).map (·.result)
      = some { status := .ok, sign := false, magnitude := 123456, quotient := 1234, remainder := 56 } := by decide

theorem test_decode_scale_7 :
    (nextOf (exec .decode (decoding 7 0x800096))).map (·.result)
      = some { status := .ok, sign := false, magnitude := 150, quotient := 21, remainder := 3 } := by decide

-- V-D7
theorem test_valid_pos_widest :
    (nextOf (exec (.validPos 1048575) (decoding 100 0x8FFFFF))).map (·.result)
      = some { status := .ok, sign := false, magnitude := 1048575, quotient := 10485, remainder := 75 } := by decide

-- V-D6, negative zero
theorem test_valid_neg_zero :
    (nextOf (exec (.validNeg 0) (decoding 100 0x900000))).map (·.result)
      = some { status := .ok, sign := true, magnitude := 0, quotient := 0, remainder := 0 } := by decide

-- V-D17 to V-D24, L1-8: every invalid class, through DECODE
theorem test_invalid_frames :
    [0x000000, 0x200096, 0x400096, 0x600096, 0xA00096, 0xB00096, 0xBFFFFF, 0xC00096, 0xE00096, 0xFFFFFF, 0x7FFF69].all
      (fun f => (nextOf (exec .decode (decoding 100 f))).map (·.result)
        == some { status := .invalid, sign := false, magnitude := 0, quotient := 0, remainder := 0 }) = true := by decide

theorem test_invalid_c5_over_old_result :
    (nextOf (exec (.invalidC5 true 150) { decoding 100 0xB00096 with
        result := { status := .ok, sign := false, magnitude := 150, quotient := 1, remainder := 50 } })).map
      (fun t => (t.result.status, t.result.magnitude, t.done)) = some (.invalid, 0, true) := by decide

-- L1-7: -1.50
theorem test_scaled_minus_one_fifty : tripleValue 100 true 1 50 = mkRat (-3) 2 := by decide +kernel

/-! ## EdgeMonitor and stimulus -/

-- V-M3: NS = 1, c(t) = cal_clk(t - 1)
theorem test_one_stage_delay :
    (nextOf (step { at_ gap3 .idle true true with inputs := [{ quiet with calClk := .low, calData := .high }] })).map
      (fun t => (clockLevel t, dataLevel t)) = some (false, true) := by decide

-- V-E2
theorem test_wire_word : wireWord gap3 0x900096 = 0x6FFF69 := by decide

-- R93: BIT 1 1 2
theorem test_bit_line : (bitLine true 1 2).map (fun x => (x.c, x.d)) = [(false, false), (true, false), (true, false)] := by
  decide

/-! ## Witnesses -/

/-- An active state whose timeout fires, and one whose timeout does not. -/
def firing (st : FsmState) : State := at_ { gap3 with stallTimeout := 1 } st true true

theorem witness_DecodingAnEncodedInstruction : (Instr.invalidC7 true 0xFFFFF).wellFormed = true := by decide
theorem witness_EncodingADecodedWord : decode .frame 0xFFFFFF = .ok (.invalidC7 true 0xFFFFF) := by rfl

theorem witness_EveryFrameWord : hasDefaultLayout gap3 = true ∧ (0xFFFFFF : Nat) < 2 ^ 24 ∧
    (0x800000 : Nat) &&& 0xF00000 = 0x800000 ∧ (0x9FFFFF : Nat) &&& 0xF00000 = 0x900000 ∧
    (0x1FFFFF : Nat) &&& 0xE00000 = 0 ∧ (0x3FFFFF : Nat) &&& 0xE00000 = 0x200000 ∧
    (0x5FFFFF : Nat) &&& 0xE00000 = 0x400000 ∧ (0x7FFFFF : Nat) &&& 0xE00000 = 0x600000 ∧
    (0xBFFFFF : Nat) &&& 0xE00000 = 0xA00000 ∧ (0xDFFFFF : Nat) &&& 0xE00000 = 0xC00000 ∧
    (0xFFFFFF : Nat) &&& 0xE00000 = 0xE00000 := by decide

theorem witness_StatusAndValidOutputs :
    (at_ gap3 .idle true true).result.status = .none ∧
    ({ at_ gap3 .idle true true with result := okResult gap3 true 1 } : State).result.status = .ok ∧
    ({ at_ gap3 .idle true true with result := invalidResult } : State).result.status = .invalid ∧
    ({ at_ gap3 .idle true true with result := stallResult } : State).result.status = .stall := by decide

theorem witness_TheWireCarriesEveryBitInverted : (0xFFFFFF : Nat) < 2 ^ gap3.frameBits ∧
    24 * (1 + 2) - 1 < gap3.frameBits * (1 + 2) ∧ 23 * (1 + 2) - 1 < (gap3.frameBits - 1) * (1 + 2) ∧
    gap3.frameBits = 24 := by decide

theorem witness_TheDefaultsAreTheSpecs : defaultParams = { cyclesPerUs := 1, scaleFactor := 100 } := by decide

theorem witness_AStimulusIsSeen :
    ParamsLegal (at_ gap3 .idle true true).params ∧
    (reqLine false true ++ segLine true true 1)[1]? = some { rst := false, readReq := false, c := true, d := true } ∧
    ∃ t, runsTo 1 (driveStimulus (reqLine false true ++ segLine true true 1) (at_ gap3 .idle true true)) t :=
  ⟨by decide, rfl, _, rfl⟩

theorem witness_QueriesReadTheLastStage :
    1 ≤ (at_ gap3 .idle true false).params.syncStages ∧
    (at_ gap3 .idle true false).clkSync.length = (at_ gap3 .idle true false).params.syncStages ∧
    (at_ gap3 .idle true false).dataSync.length = (at_ gap3 .idle true false).params.syncStages := by decide

theorem witness_AHeldPin :
    (pinsNow (at_ gap3 .idle true true)).calClk = .high ∧ (pinsNow (at_ gap3 .idle true true)).calData = .high ∧
    (pinsNow { at_ gap3 .idle true true with inputs := [{ quiet with calClk := .low, calData := .low }] }).calClk = .low ∧
    (pinsNow { at_ gap3 .idle true true with inputs := [{ quiet with calClk := .low, calData := .low }] }).calData
      = .low := by decide

theorem witness_LinesAreSeen :
    (∃ t, step (at_ { gap3 with syncStages := 2 } .idle true true) = .next t) ∧
    (at_ { gap3 with syncStages := 2 } .idle true true).clkSync.length = 2 ∧
    (at_ { gap3 with syncStages := 2 } .idle true true).dataSync.length = 2 ∧ ParamsLegal gap3 ∧
    ∃ t, runsTo gap3.syncStages (at_ gap3 .idle true true) t :=
  ⟨⟨_, rfl⟩, rfl, rfl, by decide, _, rfl⟩

theorem witness_AResetCycle : ParamsLegal gap3 ∧ isReserved (decoding 100 0x800096).state = false ∧
    (pinsNow { decoding 100 0x800096 with inputs := [{ quiet with rst := true }] }).rst = true := by decide

theorem witness_ReadInIdleIsAccepted : (at_ gap3 .idle true true).state = .idle := by decide
theorem witness_ReadOutsideIdleIsLost : (at_ gap3 .decode true true).state ≠ .idle := by decide

theorem witness_NoneActs : (at_ gap3 .idle true true).state = .idle ∧ (at_ gap3 .decode true true).state ≠ .idle ∧
    isReserved (at_ gap3 .decode true true).state = false := by decide

theorem witness_IdleWaits : (at_ gap3 .idle true true).state = .idle ∧
    (pinsNow (at_ gap3 .idle true true)).readReq = false ∧
    (pinsNow { at_ gap3 .idle true true with inputs := [{ quiet with readReq := true }] }).readReq = true := by decide

theorem witness_ReservedStates : ParamsLegal (at_ gap3 .reserved6 true true).params ∧
    (at_ gap3 .reserved6 true true).state = .reserved6 ∧ (at_ gap3 .reserved7 true true).state = .reserved7 := by decide

/-- The hypotheses on the timeout and the clock in the statements of the four active states: met with the timeout
disabled, and one cycle before it fires, at either level of the clock. -/
theorem witness_ActiveCycleWithoutTimeout :
    ∀ c : Bool, ∀ p ∈ [gap3, { gap3 with stallTimeout := 2 }], ∀ st ∈ [FsmState.syncWaitHigh, .bitWaitHighEnd, .bitWaitLowEnd],
      ¬ (0 < (at_ p st c true).params.stallTimeout ∧
        (at_ p st c true).timeoutCount + 1 = (at_ p st c true).params.stallTimeout) ∧
      clockLevel (at_ p st c true) = c := by decide

/-- SYNC_MEASURE at the counts where its clauses meet: GT, the last short interval, and GT + 1, the first gap. -/
def measuring (sb count : Nat) (c : Bool) : State :=
  { at_ { gap3 with syncBits := sb } .syncMeasure c true with gapCount := count }

theorem witness_SyncMeasureCountsAndRejects :
    ¬ (0 < (measuring 0 3 true).params.stallTimeout ∧
      (measuring 0 3 true).timeoutCount + 1 = (measuring 0 3 true).params.stallTimeout) ∧
    clockLevel (measuring 0 3 true) = true ∧ clockLevel (measuring 0 3 false) = false ∧
    (measuring 0 3 false).gapCount ≤ gapThreshold (measuring 0 3 false).params := by decide

theorem witness_SyncDeclaredWithoutABit :
    ¬ (0 < (measuring 0 4 false).params.stallTimeout ∧
      (measuring 0 4 false).timeoutCount + 1 = (measuring 0 4 false).params.stallTimeout) ∧
    (measuring 0 4 false).params.syncBits = 0 ∧ clockLevel (measuring 0 4 false) = false ∧
    gapThreshold (measuring 0 4 false).params < (measuring 0 4 false).gapCount := by decide

theorem witness_SyncDeclaredWithTheFirstBit :
    ¬ (0 < (measuring 1 4 false).params.stallTimeout ∧
      (measuring 1 4 false).timeoutCount + 1 = (measuring 1 4 false).params.stallTimeout) ∧
    (measuring 1 4 false).params.syncBits = 1 ∧ clockLevel (measuring 1 4 false) = false ∧
    gapThreshold (measuring 1 4 false).params < (measuring 1 4 false).gapCount := by decide

/-- A first high cycle with GT = 0, so that n = 1 exceeds GT; and with GT = 1, so that it does not. The line falls
in the next cycle. -/
def rising (gt : Nat) : State :=
  { at_ { gap3 with gapThresholdDirect := some gt } .syncWaitHigh true true with
    inputs := [{ quiet with calClk := .low }, quiet] }

theorem witness_AHighRun : ∀ gt ∈ [0, 1],
    ParamsLegal (rising gt).params ∧ NoTimeoutWithin (1 + 1) (rising gt) ∧ (rising gt).state = .syncWaitHigh ∧
    (∀ k < 1, ∀ u ∈ after k (rising gt), clockLevel u = true ∧ (pinsNow u).rst = false) ∧
    (∀ t ∈ after 1 (rising gt), clockLevel t = false ∧ (pinsNow t).rst = false) := by decide

theorem witness_ACount :
    ∃ t, runsTo 2 { at_ gap3 .idle true true with inputs := [{ quiet with readReq := true }, quiet] } t ∧
      t.state = .syncMeasure ∧ 1 ≤ t.gapCount := ⟨_, rfl, by decide, by decide⟩

theorem witness_TheDataLine : (∃ t, step (at_ gap3 .bitWaitLowEnd false true) = .next t) ∧
    ¬ ((at_ gap3 .bitWaitLowEnd false true).state = .bitWaitLowEnd ∧
      clockLevel (at_ gap3 .bitWaitLowEnd false true) = true) ∧
    (at_ gap3 .bitWaitLowEnd false true).state ≠ .syncMeasure := ⟨⟨_, rfl⟩, by decide, by decide⟩

/-- The smallest layout: one value bit, the sign, one check bit. -/
def tiny : Params := { gap3 with frameBits := 3, valueBits := 1, checkBits := 1, checkExpected := 1 }

/-- Clock levels of the frame 0b101 of the smallest layout from sync on: three pulses of different lengths with
SB = 0, the last two of them with SB = 1. -/
def clocks (sb : Nat) : List Bool :=
  if sb = 0 then [false, true, true, false, false, true, false, true]
  else [false, false, false, false, false, true, false, true]

/-- Data levels of the same cycles: the wire levels of 0b101 at the sample points 1, 5 and 7, their opposite in the
cycle before each. -/
def datas : List Bool := [true, false, true, false, false, true, true, false]

/-- That frame on its way, with a timeout that the last sample point just escapes. -/
def receiving (sb : Nat) : State :=
  driveStimulus
    (List.zipWith (fun c d => { rst := false, readReq := false, c := c, d := d }) (clocks sb) datas ++ gapLine 2)
    { at_ { tiny with syncBits := sb, stallTimeout := 9 } .bitWaitLowEnd false true with bitIndex := sb, frame := sb }

theorem witness_AFrameOnTheWire : ∀ sb ∈ [0, 1],
    ParamsLegal (receiving sb).params ∧ NoTimeoutWithin 8 (receiving sb) ∧
    0b101 < 2 ^ (receiving sb).params.frameBits ∧ (receiving sb).state = .bitWaitLowEnd ∧
    (receiving sb).bitIndex = (receiving sb).params.syncBits ∧
    (receiving sb).frame = 0b101 % 2 ^ (receiving sb).params.syncBits ∧
    (∀ k < 8, ∀ u ∈ after k (receiving sb),
      clockLevel u = (clocks sb).getD k true ∧ dataLevel u = datas.getD k true) ∧
    (∀ k < 9, ∀ u ∈ after k (receiving sb), (pinsNow u).rst = false) ∧
    isRising ((clocks sb).getD · true) 7 = true ∧
    (receiving sb).params.syncBits + (risingCycles ((clocks sb).getD · true) 8).length
      = (receiving sb).params.frameBits := by decide

theorem witness_AFrameOnTheWire_data (i u : Nat)
    (h : (risingCycles ((clocks 0).getD · true) 8)[i]? = some u) : datas.getD u true = !(0b101 : Nat).testBit (0 + i) := by
  rw [show risingCycles ((clocks 0).getD · true) 8 = [1, 5, 7] by decide] at h
  match i, h with
  | 0, h => cases h; decide
  | 1, h => cases h; decide
  | 2, h => cases h; decide
  | _ + 3, h => cases h

theorem witness_AFrameOnTheWire_data_syncBit (i u : Nat)
    (h : (risingCycles ((clocks 1).getD · true) 8)[i]? = some u) : datas.getD u true = !(0b101 : Nat).testBit (1 + i) := by
  rw [show risingCycles ((clocks 1).getD · true) 8 = [5, 7] by decide] at h
  match i, h with
  | 0, h => cases h; decide
  | 1, h => cases h; decide
  | _ + 2, h => cases h

theorem witness_TheRisingCycles : ∀ sb ∈ [0, 1],
    ParamsLegal (receiving sb).params ∧ NoTimeoutWithin 8 (receiving sb) ∧ (receiving sb).state = .bitWaitLowEnd ∧
    (receiving sb).bitIndex + (risingCycles ((clocks sb).getD · true) (8 - 1)).length
      < (receiving sb).params.frameBits ∧
    (∀ k < 8, ∀ u ∈ after k (receiving sb),
      clockLevel u = (clocks sb).getD k true ∧ dataLevel u = datas.getD k true ∧ (pinsNow u).rst = false) := by decide

/-- GT = 3, a gap of 4 cycles, L = H = 1, and the shortest timeout that lets the frame through. -/
theorem witness_AFrameStimulus : ∀ x ∈ [(0, 11), (1, 10)],
    ParamsLegal { tiny with syncBits := x.1, stallTimeout := x.2 } ∧
    (at_ { tiny with syncBits := x.1, stallTimeout := x.2 } .idle true true).state = .idle ∧
    0b101 < 2 ^ tiny.frameBits ∧ gapThreshold tiny < 4 ∧
    (x.1 = 0 → 4 + ((tiny.frameBits - 1) * (1 + 1) + 1 + 1) < x.2) ∧
    (x.1 = 1 → 4 + 1 + ((tiny.frameBits - 2) * (1 + 1) + 1 + 1) < x.2) := by decide

theorem witness_DecodeLoadsTheResult :
    (0xA00096 : Nat) / 2 ^ 21 % 2 ^ 3 ≠ 4 ∧ (0x800096 : Nat) / 2 ^ 21 % 2 ^ 3 = 4 := by decide

theorem witness_InvalidClasses : Instr.invalidC7 true 5 ∈ [Instr.invalidC0 true 5, .invalidC7 true 5] := by decide

theorem witness_DecodeDoesWhatTheFrameClassSays : hasDefaultLayout (decoding 100 0x900096).params = true ∧
    decode .frame (decoding 100 0x900096).frame = .ok (.validNeg 150) := ⟨by decide, by rfl⟩

theorem witness_DecodeReadsTheFrameAlone :
    (decoding 100 0x900096).params = { decoding 100 0x900096 with clkSync := [false], bitIndex := 3 }.params ∧
    (decoding 100 0x900096).frame = { decoding 100 0x900096 with clkSync := [false], bitIndex := 3 }.frame := by decide

theorem witness_TheMagnitudeDependsOnTheValueBits :
    checkField gap3 0x800096 = gap3.checkExpected ∧ checkField gap3 0x900096 = gap3.checkExpected ∧
    (∀ i < gap3.valueBits, (0x800096 : Nat).testBit i = (0x900096 : Nat).testBit i) ∧
    checkField gap3 0xA00096 ≠ gap3.checkExpected ∧ checkField gap3 0xFFFFFF ≠ gap3.checkExpected := by decide

theorem witness_AnEncodedMeasurement : ParamsLegal (decoding 100 0x9FFFFF).params ∧
    1048575 < 2 ^ (decoding 100 0x9FFFFF).params.valueBits ∧
    (decoding 100 0x9FFFFF).frame = 1048575 + 1 * 2 ^ 20 + 4 * 2 ^ 21 := by decide

theorem witness_TheScalerIsExact : ParamsLegal gap3 ∧ 1048575 < 2 ^ gap3.valueBits := by decide

theorem witness_ADecodedFrame : ParamsLegal (decoding 100 0x800096).params ∧
    (∃ t, exec .decode (decoding 100 0x800096) = .next t) ∧
    checkField gap3 0x800096 = gap3.checkExpected ∧ checkField gap3 0xA00096 ≠ gap3.checkExpected :=
  ⟨by decide, ⟨_, rfl⟩, by decide, by decide⟩

theorem witness_TheStallTimeout : 0 < (firing .syncMeasure).params.stallTimeout ∧
    (firing .syncMeasure).timeoutCount + 1 = (firing .syncMeasure).params.stallTimeout ∧
    ∀ i ∈ [Instr.syncWaitHigh, .syncMeasure, .bitWaitHighEnd, .bitWaitLowEnd],
      i ∈ [Instr.syncWaitHigh, .syncMeasure, .bitWaitHighEnd, .bitWaitLowEnd] := by decide

/-- READ accepted with TO = 1, and a quiet cycle after it. -/
def accepted : State :=
  { at_ { gap3 with stallTimeout := 1 } .idle false true with inputs := [{ quiet with readReq := true }, quiet] }

theorem witness_TheTimeoutFires : ParamsLegal accepted.params ∧ 0 < accepted.params.stallTimeout ∧
    accepted.state = .idle ∧ (pinsNow accepted).rst = false ∧ (pinsNow accepted).readReq = true ∧
    ∀ k < 2, 1 ≤ k → ∀ u ∈ after k accepted, isActive u.state = true ∧ (pinsNow u).rst = false := by decide

theorem witness_ATimeoutBounds : Sound (firing .syncWaitHigh) ∧ 0 < (firing .syncWaitHigh).params.stallTimeout ∧
    isActive (firing .syncWaitHigh).state = true ∧
    ∀ k < 1, ∀ u ∈ after k (firing .syncWaitHigh), (pinsNow u).rst = false :=
  ⟨by decide, by decide, by decide, by decide⟩

theorem witness_AStalledClock :
    ∀ x ∈ [(FsmState.syncWaitHigh, false), (.syncMeasure, true), (.bitWaitHighEnd, true), (.bitWaitLowEnd, false)],
      ParamsLegal gap3 ∧ gap3.stallTimeout = 0 ∧ stallLevel x.1 = some x.2 ∧
      ∀ k < 1, ∀ u ∈ after k (at_ gap3 x.1 x.2 true), clockLevel u = x.2 ∧ (pinsNow u).rst = false := by decide

theorem witness_ResetThenTimeout :
    (∃ t, step { firing .bitWaitLowEnd with inputs := [{ quiet with rst := true }] } = .next t) ∧
    (∃ t, step (firing .bitWaitLowEnd) = .next t) ∧ (pinsNow (firing .bitWaitLowEnd)).rst = false ∧
    isActive (firing .bitWaitLowEnd).state = true ∧ 0 < (firing .bitWaitLowEnd).params.stallTimeout ∧
    (firing .bitWaitLowEnd).timeoutCount + 1 = (firing .bitWaitLowEnd).params.stallTimeout ∧
    (∃ t, step (at_ gap3 .decode true true) = .next t) ∧ isActive (at_ gap3 .decode true true).state = false :=
  ⟨⟨_, rfl⟩, ⟨_, rfl⟩, by decide, by decide, by decide, by decide, ⟨_, rfl⟩, by decide⟩

theorem witness_AStepRunsTheRow : ParamsLegal gap3 ∧ isReserved (at_ gap3 .idle true true).state = false ∧
    isReserved (at_ gap3 .reserved7 true true).state = true ∧
    (∃ u, exec (fetch (at_ gap3 .idle true true)) (at_ gap3 .idle true true) = .next u) ∧
    ∃ f, exec (fetch (at_ gap3 .reserved7 true true)) (at_ gap3 .reserved7 true true) = .fault f :=
  ⟨by decide, by decide, by decide, ⟨_, rfl⟩, ⟨_, rfl⟩⟩

theorem witness_EveryRowOfACycle : ParamsLegal (decoding 100 0x900096).params ∧
    (decoding 100 0x900096).frame < 2 ^ (decoding 100 0x900096).params.frameBits ∧
    cycleWords (decoding 100 0x900096) = [(.host, 0b00), (.state, 0b101), (.frame, 0x900096)] := by decide

theorem witness_APlacedWord : ParamsLegal State.reset.params ∧ hasDefaultLayout State.reset.params = true ∧
    decodeTableWord 24 0xFFFFFF = some (.invalidC7 true 0xFFFFF) := ⟨by decide, by decide, by rfl⟩

/-- A step without reset that gives a next state, in IDLE, in an active state and in DECODE. -/
theorem witness_StepWithoutReset :
    (∃ t, step (at_ gap3 .idle true true) = .next t ∧ t.done = false) ∧
    (∃ t, step (firing .syncMeasure) = .next t ∧ t.done = true) ∧
    (∃ t, step (decoding 100 0x800096) = .next t) ∧ (pinsNow (decoding 100 0x800096)).rst = false :=
  ⟨⟨_, rfl, rfl⟩, ⟨_, rfl, rfl⟩, ⟨_, rfl⟩, by decide⟩

/-- The cycle after a DECODE cycle, with the next READ given. -/
def doneCycle : State :=
  { at_ gap3 .idle true true with
    done := true, bitIndex := 24, frame := 0x800096, result := okResult gap3 false 150
    inputs := [{ quiet with readReq := true }] }

theorem witness_TheDoneCycle : Sound doneCycle ∧ doneCycle.done = true ∧ (pinsNow doneCycle).rst = false ∧
    (pinsNow doneCycle).readReq = true := by decide

theorem witness_EveryInstanceStartsSound : ∃ s, elaborate gap3 = .ok s := ⟨_, rfl⟩

/-- A sound state in the middle of a frame that steps. -/
def midFrame : State := { at_ gap3 .bitWaitLowEnd true false with bitIndex := 23, frame := 0x7FFFFF }

theorem witness_EveryStepKeepsTheInvariant : Sound midFrame ∧ ∃ t, step midFrame = .next t := ⟨by decide, _, rfl⟩

end Sys2Proof.Tests
end

section
/-!
SUPPORT. What one step does to the fields that no row of the table touches, and a cycle of an active state as one
function of the state.
-/
namespace Sys2Proof.Machine

/-! ### What every step does -/

/-- Before its end, a cycle leaves the parameters, the synchronizer stages and the ports alone. -/
theorem step_eq_endCycle {s t : State} (h : step s = .next t) : ∃ u, t = endCycle u ∧ SameWires s u := by
  obtain ⟨-, -, u, rfl, hu⟩ := step_cases h
  refine ⟨u, rfl, ?_⟩
  rcases hu with ⟨-, rfl⟩ | ⟨-, -, rfl⟩ | ⟨-, -, rfl⟩ | ⟨-, -, rfl⟩ | ⟨-, -, rfl⟩ | ⟨-, -, rfl⟩ | ⟨-, -, rfl⟩
  · simp [SameWires]
  · exact idleCycle_sameWires _ _
  · exact activeCycle_sameWires syncWaitHighRule_sameWires _
  · exact activeCycle_sameWires syncMeasureRule_sameWires _
  · exact activeCycle_sameWires bitWaitHighEndRule_sameWires _
  · exact activeCycle_sameWires bitWaitLowEndRule_sameWires _
  · simp [SameWires]

/-- What a step does to the parameters, the synchronizers and the pending ports (R22, R112). -/
theorem step_wires {s t : State} (h : step s = .next t) :
    t.params = s.params ∧
    t.clkSync = shiftStages s.params.syncStages (clkPin s) s.clkSync ∧
    t.dataSync = shiftStages s.params.syncStages (dataPin s) s.dataSync ∧
    t.inputs = s.inputs.tail ∧ t.cycle = s.cycle + 1 := by
  obtain ⟨u, rfl, hp, hc, hd, hi, hn⟩ := step_eq_endCycle h
  have hpins : pinsNow u = pinsNow s := pinsNow_congr hi hn
  simp [hp, hc, hd, hi, hn, clkPin, dataPin, hpins]

theorem step_params {s t : State} (h : step s = .next t) : t.params = s.params := (step_wires h).1

/-! ### A cycle of an active state -/

/-- The state rule of an active state; the other states have none. -/
def activeRule (s : State) : State :=
  match s.state with
  | .syncWaitHigh => syncWaitHighRule s
  | .syncMeasure => syncMeasureRule s
  | .bitWaitHighEnd => bitWaitHighEndRule s
  | .bitWaitLowEnd => bitWaitLowEndRule s
  | .idle | .decode | .reserved6 | .reserved7 => s

/-- An active state is one of four, each with its rule. -/
theorem activeRule_cases {s : State} (ha : isActive s.state = true) :
    (s.state = .syncWaitHigh ∧ activeRule s = syncWaitHighRule s) ∨
    (s.state = .syncMeasure ∧ activeRule s = syncMeasureRule s) ∨
    (s.state = .bitWaitHighEnd ∧ activeRule s = bitWaitHighEndRule s) ∨
    (s.state = .bitWaitLowEnd ∧ activeRule s = bitWaitLowEndRule s) := by
  cases hs : s.state <;> simp_all [isActive, activeRule]

theorem isReserved_of_isActive {st : FsmState} (h : isActive st = true) : isReserved st = false := by
  cases st <;> simp_all [isActive, isReserved]

/-- The rules leave the count of active cycles to `countActive`. -/
theorem activeRule_timeoutCount {s : State} (ha : isActive s.state = true) :
    (activeRule s).timeoutCount = s.timeoutCount := by
  rcases activeRule_cases ha with ⟨-, h⟩ | ⟨-, h⟩ | ⟨-, h⟩ | ⟨-, h⟩ <;> rw [h]
  · rcases syncWaitHighRule_cases s with ⟨-, h⟩ | ⟨-, h⟩ <;> simp [h]
  · rcases syncMeasureRule_cases s with ⟨-, h⟩ | ⟨-, -, h⟩ | ⟨-, -, h⟩ <;> simp [h]
  · rcases bitWaitHighEndRule_cases s with ⟨-, h⟩ | ⟨-, h⟩ <;> simp [h]
  · rcases bitWaitLowEndRule_cases s with ⟨-, h⟩ | ⟨-, h⟩ <;> simp [h]

/-- A rule stays in the active states or goes to DECODE. -/
theorem activeRule_state {s : State} (ha : isActive s.state = true) :
    isActive (activeRule s).state = true ∨ (activeRule s).state = .decode := by
  rcases activeRule_cases ha with ⟨hs, h⟩ | ⟨hs, h⟩ | ⟨hs, h⟩ | ⟨hs, h⟩ <;> rw [h]
  · rcases syncWaitHighRule_cases s with ⟨-, h⟩ | ⟨-, h⟩ <;> simp [h, hs, isActive]
  · rcases syncMeasureRule_cases s with ⟨-, h⟩ | ⟨-, -, h⟩ | ⟨-, -, h⟩ <;> simp [h, hs, isActive]
  · rcases bitWaitHighEndRule_cases s with ⟨-, h⟩ | ⟨-, h⟩ <;> simp [h, hs, isActive]
  · rcases bitWaitLowEndRule_cases s with ⟨-, h⟩ | ⟨-, h⟩
    · rcases stateAfterSample_cases s.params.frameBits s.bitIndex with ⟨-, hd⟩ | ⟨-, hd⟩ <;>
        simp [h, hd, isActive]
    · simp [h, hs, isActive]

/-- In an active state both commands READ and NONE run an active cycle. -/
theorem stateCycle_of_isActive (request : Bool) {s : State} (ha : isActive s.state = true) :
    stateCycle request s = .next (activeCycle activeRule s) := by
  rcases activeRule_cases (s := countActive (clearDone s)) ha with ⟨hs, h⟩ | ⟨hs, h⟩ | ⟨hs, h⟩ | ⟨hs, h⟩ <;>
    simp only [countActive_state, clearDone_state] at hs
  · simp [stateCycle, hs, execSyncWaitHigh, activeCycle, h]
  · simp [stateCycle, hs, execSyncMeasure, activeCycle, h]
  · simp [stateCycle, hs, execBitWaitHighEnd, activeCycle, h]
  · simp [stateCycle, hs, execBitWaitLowEnd, activeCycle, h]

/-- The cycle of an active state that the timeout ends. -/
theorem step_stall {s : State} (hl : ParamsLegal s.params) (ha : isActive s.state = true)
    (hr : (pinsNow s).rst = false) (hf : timeoutFires s = true) : step s = .next (endCycle (stall s)) := by
  rw [step_eq_stateCycle hl (isReserved_of_isActive ha) hr, stateCycle_of_isActive _ ha]
  simp [finish, activeCycle, hf]

/-- The cycle of an active state that the timeout does not end. -/
theorem step_activeRule {s : State} (hl : ParamsLegal s.params) (ha : isActive s.state = true)
    (hr : (pinsNow s).rst = false) (hf : timeoutFires s = false) :
    step s = .next (endCycle (activeRule (countActive (clearDone s)))) := by
  rw [step_eq_stateCycle hl (isReserved_of_isActive ha) hr, stateCycle_of_isActive _ ha]
  simp [finish, activeCycle, hf]

/-- A request in IDLE (R201). -/
theorem step_accept {s : State} (hl : ParamsLegal s.params) (hs : s.state = .idle)
    (hr : (pinsNow s).rst = false) (hq : (pinsNow s).readReq = true) :
    step s = .next (endCycle (accept (clearDone s))) := by
  rw [step_eq_stateCycle hl (by simp [hs, isReserved]) hr]
  simp [stateCycle, hs, hq, idleCycle, idleRule, finish]

/-- The cycle of DECODE (R170). -/
theorem step_decode {s : State} (hl : ParamsLegal s.params) (hs : s.state = .decode)
    (hr : (pinsNow s).rst = false) :
    step s = .next (endCycle (deliver (decodeResult s.params s.frame) s)) := by
  rw [step_eq_stateCycle hl (by simp [hs, isReserved]) hr]
  simp [stateCycle, hs, execDecode, finish]

end Sys2Proof.Machine
end

section
/-!
The scope's own claims: the defaults (R8 to R20), the parameters (R22) and the bound that the timeout sets (R20, R232).
-/
namespace Sys2Proof.Machine

/-- Settles O8: each default is read off the record. -/
theorem theDefaultsAreTheSpecs : Obligations.TheDefaultsAreTheSpecs := by
  rintro k scale p rfl
  exact ⟨rfl, rfl, rfl, rfl, rfl, rfl, fun _ => rfl⟩

/-- Settles O52: every row leaves the parameters alone, and so does the end of the cycle. -/
theorem noStepChangesAParameter : Obligations.NoStepChangesAParameter :=
  fun _ _ h => step_params h

/-- With `left` cycles before the count reaches TO, an active cycle leaves the active states or uses one of them up. -/
theorem leaves_active_within (left : Nat) : ∀ s : State, ParamsLegal s.params → isActive s.state = true →
    s.timeoutCount + left = s.params.stallTimeout → 0 < left →
    (∀ k < left, ∀ u, runsTo k s u → (pinsNow u).rst = false) →
    ∃ n t, n ≤ left ∧ runsTo n s t ∧ (t.state = .idle ∨ t.state = .decode) := by
  induction left with
  | zero => intro s _ _ _ h0; exact absurd h0 (Nat.lt_irrefl 0)
  | succ left ih =>
    intro s hl ha hcount _ hrst
    have hr : (pinsNow s).rst = false := hrst 0 (Nat.succ_pos left) s (by simp)
    cases hf : timeoutFires s with
    | true =>
      exact ⟨1, _, by omega, runsTo_one.mpr (step_stall hl ha hr hf), .inl (by simp)⟩
    | false =>
      have hstep := step_activeRule hl ha hr hf
      rcases activeRule_state (s := countActive (clearDone s)) ha with hactive | hdecode
      · have hp := step_params hstep
        have hcounted := activeRule_timeoutCount (s := countActive (clearDone s)) ha
        simp only [countActive_timeoutCount, clearDone_params, clearDone_timeoutCount,
          countedActive_of_pos (show 0 < s.params.stallTimeout by omega)] at hcounted
        have hleft : 0 < left := Nat.pos_of_ne_zero fun h0 => by
          have hfires := (timeoutFires_iff s).mpr ⟨by omega, by omega⟩
          exact Bool.false_ne_true (hf.symm.trans hfires)
        obtain ⟨n, t, hn, hrun, ht⟩ := ih (endCycle (activeRule (countActive (clearDone s)))) (by rwa [hp])
          hactive (by rw [hp, endCycle_timeoutCount, hcounted]; omega) hleft
          fun k hk u hu => hrst (k + 1) (by omega) u (runsTo_succ.mpr ⟨_, hstep, hu⟩)
        exact ⟨n + 1, t, by omega, runsTo_succ.mpr ⟨_, hstep, hrun⟩, ht⟩
      · exact ⟨1, _, by omega, runsTo_one.mpr hstep, .inr hdecode⟩

/-- Settles O41, by induction on the cycles that are left before the timeout. -/
theorem aTimeoutBoundsEveryAcquisition : Obligations.ATimeoutBoundsEveryAcquisition := by
  intro s hsound hto ha hrst
  obtain ⟨hl, ⟨-, -, -, -, -, hcount, -⟩, -, -⟩ := hsound
  have hlt := hcount hto ha
  exact leaves_active_within _ s hl ha (by omega) (by omega) hrst

end Sys2Proof.Machine
end

section
/-!
SUPPORT. A state that a stimulus is being driven into (30_encoding.md R92): cycle by cycle, the block sees the stimulus
as it is written.
-/
namespace Sys2Proof.Machine

/-- The stages of a synchronizer of `stages` stages hold the first of the levels to come, the last stage the very
first. -/
def StagesHold (stages : Nat) (levels held : List Bool) : Prop :=
  ∀ j < stages, ∀ b, levels[stages - 1 - j]? = some b → held[j]? = some b

theorem stagesHold_stimulusStages (stages : Nat) (levels held : List Bool) :
    StagesHold stages levels (stimulusStages stages levels held) := by
  intro j hj b hb
  simp [stimulusStages, hj, hb]

/-- The last stage shows the level of this cycle. -/
theorem StagesHold.last {stages : Nat} {b : Bool} {levels held : List Bool} (h : StagesHold stages (b :: levels) held)
    (hpos : 0 < stages) : held.getD (stages - 1) false = b := by
  have := h (stages - 1) (by omega) b (by simp)
  simp [List.getD, this]

/-- A shift moves on to the next level, where the pin is at the level that comes `stages` cycles later (R112). -/
theorem StagesHold.shift {stages : Nat} {level : StimulusCycle → Bool} {x : StimulusCycle}
    {rest : List StimulusCycle} {pin : Bool} {held : List Bool}
    (h : StagesHold stages ((x :: rest).map level) held)
    (hpin : ∀ y, (x :: rest)[stages]? = some y → pin = level y) :
    StagesHold stages (rest.map level) (shiftStages stages pin held) := by
  intro j hj l hl
  cases j with
  | zero =>
    rw [shiftStages_zero pin held hj]
    rw [List.getElem?_map] at hl
    obtain ⟨y, hy, rfl⟩ := Option.map_eq_some_iff.mp hl
    refine congrArg some (hpin y ?_)
    rwa [show stages = stages - 1 - 0 + 1 by omega, List.getElem?_cons_succ]
  | succ j =>
    rw [shiftStages_succ pin held hj]
    refine h j (by omega) l ?_
    rwa [show stages - 1 - j = stages - 1 - (j + 1) + 1 by omega, List.map_cons, List.getElem?_cons_succ]

/-- The pending ports `q` are those of cycle k of the stimulus: the host's ports of that cycle, and the pins at the
levels of the cycle that comes `stages` later. -/
def PortsOf (stages : Nat) (stimulus : List StimulusCycle) (k : Nat) (x : StimulusCycle) (q : Pins) : Prop :=
  q.rst = x.rst ∧ q.readReq = x.readReq ∧
  ∀ y, stimulus[k + stages]? = some y → q.calClk = heldAt y.c ∧ q.calData = heldAt y.d

/-- What is left of a stimulus is being driven into the state. -/
structure Driven (stimulus : List StimulusCycle) (s : State) : Prop where
  clock : StagesHold s.params.syncStages (stimulus.map (·.c)) s.clkSync
  data : StagesHold s.params.syncStages (stimulus.map (·.d)) s.dataSync
  ports : ∀ k x, stimulus[k]? = some x →
    ∃ q, s.inputs[k]? = some q ∧ PortsOf s.params.syncStages stimulus k x q

theorem driven_driveStimulus (stimulus : List StimulusCycle) (s : State) :
    Driven stimulus (driveStimulus stimulus s) where
  clock := stagesHold_stimulusStages _ _ _
  data := stagesHold_stimulusStages _ _ _
  ports k x hx := by
    refine ⟨stimulusPins s.params stimulus s.cycle k x, by simp [driveStimulus, hx], rfl, rfl, fun y hy => ?_⟩
    have hy' : stimulus[k + s.params.syncStages]? = some y := hy
    simp [stimulusPins, hy']

@[simp] theorem sampled_heldAt (line : Line) (b : Bool) (cycle : Nat) : sampled line (heldAt b) cycle = b := by
  cases b <;> rfl

namespace Driven

variable {x : StimulusCycle} {rest : List StimulusCycle} {s t : State}

/-- The ports of this cycle are those of the first cycle of the stimulus. -/
theorem portsOf (h : Driven (x :: rest) s) : PortsOf s.params.syncStages (x :: rest) 0 x (pinsNow s) := by
  obtain ⟨q, hq, hports⟩ := h.ports 0 x rfl
  cases hi : s.inputs with
  | nil => simp [hi] at hq
  | cons q' qs =>
    have hqq : q' = q := by simpa [hi] using hq
    simpa [pinsNow, hi, hqq] using hports

theorem rst (h : Driven (x :: rest) s) : (pinsNow s).rst = x.rst := h.portsOf.1

theorem readReq (h : Driven (x :: rest) s) : (pinsNow s).readReq = x.readReq := h.portsOf.2.1

theorem clockLevel (h : Driven (x :: rest) s) (hl : ParamsLegal s.params) : clockLevel s = x.c := by
  obtain ⟨-, -, -, -, -, -, -, -, hstages⟩ := paramsLegal_facts hl
  exact StagesHold.last h.clock hstages

theorem dataLevel (h : Driven (x :: rest) s) (hl : ParamsLegal s.params) : dataLevel s = x.d := by
  obtain ⟨-, -, -, -, -, -, -, -, hstages⟩ := paramsLegal_facts hl
  exact StagesHold.last h.data hstages

/-- A step moves on to the next cycle of the stimulus. -/
theorem step (h : Driven (x :: rest) s) (hstep : step s = .next t) : Driven rest t := by
  obtain ⟨hp, hc, hd, hi, -⟩ := step_wires hstep
  obtain ⟨-, -, hpins⟩ := h.portsOf
  rw [Nat.zero_add] at hpins
  refine ⟨?_, ?_, ?_⟩
  · rw [hp, hc]
    exact h.clock.shift fun y hy => by rw [clkPin, (hpins y hy).1, sampled_heldAt]
  · rw [hp, hd]
    exact h.data.shift fun y hy => by rw [dataPin, (hpins y hy).2, sampled_heldAt]
  · intro k y hy
    obtain ⟨q, hq, hrst, hreq, hlines⟩ := h.ports (k + 1) y (by simpa using hy)
    refine ⟨q, by rw [hi, List.getElem?_tail, hq], hrst, hreq, fun z hz => hlines z ?_⟩
    rw [hp] at hz
    rwa [Nat.add_right_comm, List.getElem?_cons_succ]

end Driven

end Sys2Proof.Machine
end

section
/-!
SUPPORT. An acquisition under a stimulus, one lemma per transition of the two waiting units (41_frame_synchronizer.md,
42_bit_sampler.md), each for as many cycles as the lines keep their levels.
-/
namespace Sys2Proof.Machine

/-- The registers that an acquisition works with. -/
structure Registers where
  state : FsmState
  bitIndex : Nat
  frame : Nat
  gapCount : Nat

def registers (s : State) : Registers where
  state := s.state
  bitIndex := s.bitIndex
  frame := s.frame
  gapCount := s.gapCount

/-- An acquisition under the parameters p: no timeout in the next `left` cycles, the rest of the stimulus, and the
registers. -/
structure Acquiring (p : Params) (left : Nat) (stimulus : List StimulusCycle) (r : Registers) (s : State) : Prop where
  params : s.params = p
  legal : ParamsLegal p
  noTimeout : NoTimeoutWithin left s
  driven : Driven stimulus s
  registers : registers s = r

/-- After n cycles the acquisition stands there. -/
def AcquiringAfter (n : Nat) (p : Params) (left : Nat) (stimulus : List StimulusCycle) (r : Registers) (s : State) :
    Prop :=
  ∃ t, runsTo n s t ∧ Acquiring p left stimulus r t

theorem AcquiringAfter.trans {m n left left' : Nat} {p : Params} {stimulus stimulus' : List StimulusCycle}
    {r r' : Registers} {s : State} (h : AcquiringAfter m p left stimulus r s)
    (h' : ∀ t, Acquiring p left stimulus r t → AcquiringAfter n p left' stimulus' r' t) :
    AcquiringAfter (m + n) p left' stimulus' r' s := by
  obtain ⟨t, hrun, ht⟩ := h
  obtain ⟨u, hrun', hu⟩ := h' t ht
  exact ⟨u, runsTo_add.mpr ⟨t, hrun, hrun'⟩, hu⟩

/-- One more active cycle that is not the last before the timeout. -/
theorem noTimeoutWithin_countActive {n : Nat} {s t : State} (h : NoTimeoutWithin (n + 1) s) (hp : t.params = s.params)
    (ht : t.timeoutCount = countedActive s.params.stallTimeout s.timeoutCount) : NoTimeoutWithin n t := by
  rcases h with h0 | hlt
  · exact .inl (by rw [hp, h0])
  · right
    rw [hp, ht, countedActive_of_pos (by omega)]
    omega

namespace Acquiring

variable {p : Params} {left : Nat} {x : StimulusCycle} {rest : List StimulusCycle} {s : State}

/-- An active cycle: what the state rule makes of the registers under the levels of the cycle. -/
theorem next {r r' : Registers} (h : Acquiring p (left + 1) (x :: rest) r s) (ha : isActive r.state = true)
    (hx : x.rst = false)
    (hrule : ∀ u, u.params = p → Machine.registers u = r → clockLevel u = x.c → dataLevel u = x.d →
      Machine.registers (activeRule u) = r') :
    AcquiringAfter 1 p left rest r' s := by
  obtain ⟨rfl, hl, hto, hd, rfl⟩ := h
  have hstep := step_activeRule hl ha (hd.rst.trans hx) (timeoutFires_of_noTimeoutWithin hto)
  refine ⟨_, runsTo_one.mpr hstep, ?_⟩
  have hp := step_params hstep
  refine ⟨hp, hl, noTimeoutWithin_countActive hto hp ?_, hd.step hstep, ?_⟩
  · exact activeRule_timeoutCount (s := countActive (clearDone s)) ha
  · exact hrule (countActive (clearDone s)) rfl rfl (hd.clockLevel hl) (hd.dataLevel hl)

end Acquiring

/-! ### Lines of a stimulus -/

@[simp] theorem segLine_zero_append (c d : Bool) (rest : List StimulusCycle) : segLine c d 0 ++ rest = rest := rfl

theorem segLine_succ_append (c d : Bool) (n : Nat) (rest : List StimulusCycle) :
    segLine c d (n + 1) ++ rest =
      { rst := false, readReq := false, c := c, d := d } :: (segLine c d n ++ rest) := rfl

theorem segLine_split_first (c d : Bool) (n : Nat) (rest : List StimulusCycle) :
    segLine c d (n + 1) ++ rest = segLine c d 1 ++ (segLine c d n ++ rest) := rfl

/-- The clock pulses of the frame bits from i to i + k - 1. -/
def bitLines (word low high i k : Nat) : List StimulusCycle :=
  (List.range' i k).flatMap fun j => bitLine (word.testBit j) low high

theorem frameLine_eq_bitLines (p : Params) (word low high : Nat) :
    frameLine p word low high = bitLines word low high 0 p.frameBits := by
  rw [frameLine, bitLines, List.range_eq_range']

theorem frame1Line_eq_bitLines (p : Params) (word low high : Nat) :
    frame1Line p word low high = bitLines word low high 1 (p.frameBits - 1) := rfl

@[simp] theorem bitLines_zero (word low high i : Nat) : bitLines word low high i 0 = [] := rfl

/-- What is left of the clock pulses of the frame bits from i to i + k, with l low cycles left of bit i. -/
def bitLinesFrom (word low high i k l : Nat) : List StimulusCycle :=
  segLine false (!word.testBit i) l ++
    (segLine true (!word.testBit i) high ++ bitLines word low high (i + 1) k)

theorem bitLines_succ (word low high i k : Nat) :
    bitLines word low high i (k + 1) = bitLinesFrom word low high i k low := by
  simp [bitLines, bitLinesFrom, List.range'_succ, bitLine]

theorem bitLinesFrom_succ (word low high i k l : Nat) :
    bitLinesFrom word low high i k (l + 1) =
      segLine false (!word.testBit i) 1 ++ bitLinesFrom word low high i k l := rfl

/-- The frame of the lower i bits of a word takes bit i. -/
theorem writeBit_mod_two_pow (word i : Nat) :
    writeBit (word % 2 ^ i) i (word.testBit i) = word % 2 ^ (i + 1) := by
  refine Nat.eq_of_testBit_eq fun j => ?_
  rw [testBit_writeBit, Nat.testBit_mod_two_pow, Nat.testBit_mod_two_pow]
  rcases Nat.lt_trichotomy j i with h | rfl | h
  · simp [h, Nat.ne_of_lt h, Nat.lt_succ_of_lt h]
  · simp
  · simp [Nat.ne_of_gt h, Nat.not_lt_of_gt h, show ¬ j < i + 1 by omega]

/-- With the wire level of f[0] on the data line, declared sync leaves the lower SB bits of the word. -/
theorem syncFrame_wire {sb : Nat} (hsb : sb ≤ 1) (word : Nat) :
    syncFrame sb 0 (!word.testBit 0) = word % 2 ^ sb := by
  rcases Nat.le_one_iff_eq_zero_or_eq_one.mp hsb with rfl | rfl
  · simp [Nat.mod_one]
  · rw [syncFrame_one, Bool.not_not, ← Nat.zero_add 1, ← writeBit_mod_two_pow, Nat.pow_zero, Nat.mod_one]

theorem syncIndex_wire {sb : Nat} (hsb : sb ≤ 1) : syncIndex sb 0 = sb := by
  rcases Nat.le_one_iff_eq_zero_or_eq_one.mp hsb with rfl | rfl <;> rfl

namespace Acquiring

variable {p : Params} {left i f g : Nat} {d : Bool} {rest : List StimulusCycle} {s : State}

/-! ### The FrameSynchronizer -/

/-- The first high cycle of an interval (R130). -/
theorem startMeasure (h : Acquiring p (left + 1) (segLine true d 1 ++ rest) ⟨.syncWaitHigh, i, f, g⟩ s) :
    AcquiringAfter 1 p left rest ⟨.syncMeasure, i, f, 1⟩ s := by
  refine h.next rfl rfl fun u _ hr hc _ => ?_
  obtain ⟨hs, rfl, rfl, rfl⟩ := Registers.mk.inj hr
  simp [activeRule, hs, syncWaitHighRule, hc, Machine.registers]

/-- Every further high cycle counts, up to GT + 1 (R131, R139). -/
theorem countHigh (n : Nat) {g : Nat} {s : State} (hg : g ≤ gapThreshold p + 1)
    (h : Acquiring p (left + n) (segLine true d n ++ rest) ⟨.syncMeasure, i, f, g⟩ s) :
    AcquiringAfter n p left rest ⟨.syncMeasure, i, f, min (g + n) (gapThreshold p + 1)⟩ s := by
  induction n generalizing g s with
  | zero => exact ⟨s, by simp, by simpa [hg] using h⟩
  | succ n ih =>
    rw [segLine_succ_append] at h
    have hfirst : AcquiringAfter 1 p (left + n) (segLine true d n ++ rest)
        ⟨.syncMeasure, i, f, min (g + 1) (gapThreshold p + 1)⟩ s := by
      refine h.next rfl rfl fun u hp hr hc _ => ?_
      obtain ⟨hs, rfl, rfl, rfl⟩ := Registers.mk.inj hr
      simp [activeRule, hs, syncMeasureRule, hc, Machine.registers, hp]
    have hcount : min (min (g + 1) (gapThreshold p + 1) + n) (gapThreshold p + 1)
        = min (g + (n + 1)) (gapThreshold p + 1) := by omega
    rw [← hcount]
    exact Nat.add_comm 1 n ▸ hfirst.trans fun t ht => ih (Nat.min_le_right _ _) ht

/-- The low cycle after a start gap declares sync (R133, R136). -/
theorem declareSync (hg : gapThreshold p < g)
    (h : Acquiring p (left + 1) (segLine false d 1 ++ rest) ⟨.syncMeasure, i, f, g⟩ s) :
    AcquiringAfter 1 p left rest ⟨.bitWaitLowEnd, syncIndex p.syncBits i, syncFrame p.syncBits f d, 0⟩ s := by
  refine h.next rfl rfl fun u hp hr hc hd => ?_
  obtain ⟨hs, rfl, rfl, rfl⟩ := Registers.mk.inj hr
  simp [activeRule, hs, syncMeasureRule, hc, hg, Machine.registers, hp, hd]

/-! ### The BitSampler -/

/-- A low clock holds BIT_WAIT_LOW_END (R151), and a high one BIT_WAIT_HIGH_END (R150). -/
theorem hold {st : FsmState} {c : Bool} (hst : st = .bitWaitLowEnd ∧ c = false ∨ st = .bitWaitHighEnd ∧ c = true)
    (n : Nat) {s : State} (h : Acquiring p (left + n) (segLine c d n ++ rest) ⟨st, i, f, g⟩ s) :
    AcquiringAfter n p left rest ⟨st, i, f, g⟩ s := by
  induction n generalizing s with
  | zero => exact ⟨s, by simp, h⟩
  | succ n ih =>
    rw [segLine_succ_append] at h
    have hfirst : AcquiringAfter 1 p (left + n) (segLine c d n ++ rest) ⟨st, i, f, g⟩ s := by
      refine h.next (by rcases hst with ⟨rfl, -⟩ | ⟨rfl, -⟩ <;> rfl) rfl fun u _ hr hc _ => ?_
      obtain ⟨hs, rfl, rfl, rfl⟩ := Registers.mk.inj hr
      rcases hst with ⟨rfl, rfl⟩ | ⟨rfl, rfl⟩
      · simp [activeRule, hs, bitWaitLowEndRule, hc, Machine.registers]
      · simp [activeRule, hs, bitWaitHighEndRule, hc, Machine.registers]
    exact Nat.add_comm 1 n ▸ hfirst.trans fun t ht => ih ht

/-- The low cycle after a pulse (R150). -/
theorem endPulse (h : Acquiring p (left + 1) (segLine false d 1 ++ rest) ⟨.bitWaitHighEnd, i, f, g⟩ s) :
    AcquiringAfter 1 p left rest ⟨.bitWaitLowEnd, i, f, g⟩ s := by
  refine h.next rfl rfl fun u _ hr hc _ => ?_
  obtain ⟨hs, rfl, rfl, rfl⟩ := Registers.mk.inj hr
  simp [activeRule, hs, bitWaitHighEndRule, hc, Machine.registers]

/-- The sample point of bit i of a word, with its wire level on the data line (R152, R81). -/
theorem samplePoint {word : Nat}
    (h : Acquiring p (left + 1) (segLine true (!word.testBit i) 1 ++ rest)
      ⟨.bitWaitLowEnd, i, word % 2 ^ i, g⟩ s) :
    AcquiringAfter 1 p left rest ⟨stateAfterSample p.frameBits i, i + 1, word % 2 ^ (i + 1), g⟩ s := by
  refine h.next rfl rfl fun u hp hr hc hd => ?_
  obtain ⟨hs, rfl, hf, rfl⟩ := Registers.mk.inj hr
  simp [activeRule, hs, bitWaitLowEndRule, hc, Machine.registers, hp, hd, hf, writeBit_mod_two_pow]

end Acquiring

end Sys2Proof.Machine
end

section
/-!
The whole acquisition under a stimulus (R2, R3, R92, R93, R278), from its transitions.
-/
namespace Sys2Proof.Machine

namespace Acquiring

variable {p : Params} {left word low high g : Nat} {d d' : Bool} {rest : List StimulusCycle} {s : State}

/-- From the last low cycles of a bit that is not the last through its pulse, to the next falling edge. -/
theorem pulse {i l : Nat} (hi : i + 1 ≠ p.frameBits)
    (h : Acquiring p (left + 1 + high + 1 + l)
      (segLine false d l ++ (segLine true (!word.testBit i) (high + 1) ++ (segLine false d' 1 ++ rest)))
      ⟨.bitWaitLowEnd, i, word % 2 ^ i, g⟩ s) :
    AcquiringAfter (l + 1 + high + 1) p left rest ⟨.bitWaitLowEnd, i + 1, word % 2 ^ (i + 1), g⟩ s := by
  rw [segLine_split_first] at h
  have hhigh : stateAfterSample p.frameBits i = .bitWaitHighEnd := if_neg hi
  have hsampled := (h.hold (.inl ⟨rfl, rfl⟩) l).trans fun _ ht => ht.samplePoint
  rw [hhigh] at hsampled
  exact (hsampled.trans fun _ ht => ht.hold (.inr ⟨rfl, rfl⟩) high).trans fun _ ht => ht.endPulse

/-- From l low cycles before the sample point of bit i to the sample point of the last bit, k bits later. -/
theorem frame (hlow : 1 ≤ low) (hhigh : 1 ≤ high) (k : Nat) {i l : Nat} {s : State} (hk : i + k + 1 = p.frameBits)
    (h : Acquiring p (left + (l + k * (low + high) + 1)) (bitLinesFrom word low high i k l ++ rest)
      ⟨.bitWaitLowEnd, i, word % 2 ^ i, g⟩ s) :
    AcquiringAfter (l + k * (low + high) + 1) p left
      (segLine true (!word.testBit (i + k)) (high - 1) ++ rest)
      ⟨.decode, p.frameBits, word % 2 ^ p.frameBits, g⟩ s := by
  obtain ⟨low, rfl⟩ := Nat.exists_eq_add_of_le' hlow
  obtain ⟨high, rfl⟩ := Nat.exists_eq_add_of_le' hhigh
  induction k generalizing i l s with
  | zero =>
    have hlast : stateAfterSample p.frameBits i = .decode := if_pos hk
    have hbudget : left + (l + 0 * (low + 1 + (high + 1)) + 1) = left + 1 + l := by omega
    rw [hbudget, bitLinesFrom, List.append_assoc, List.append_assoc, segLine_split_first] at h
    have hsampled := (h.hold (.inl ⟨rfl, rfl⟩) l).trans fun _ ht => ht.samplePoint
    rw [hlast] at hsampled
    simpa [← hk] using hsampled
  | succ k ih =>
    have hbudget : left + (l + (k + 1) * (low + 1 + (high + 1)) + 1) =
        left + (low + k * (low + 1 + (high + 1)) + 1) + 1 + high + 1 + l := by
      rw [Nat.succ_mul]; omega
    have hcycles : l + (k + 1) * (low + 1 + (high + 1)) + 1 =
        l + 1 + high + 1 + (low + k * (low + 1 + (high + 1)) + 1) := by
      rw [Nat.succ_mul]; omega
    rw [hbudget, bitLinesFrom, bitLines_succ, bitLinesFrom_succ, List.append_assoc, List.append_assoc,
      List.append_assoc] at h
    rw [hcycles, show i + (k + 1) = i + 1 + k by omega]
    exact (h.pulse (by omega)).trans fun _ ht => ih (by omega) ht

/-- From the first cycle after acceptance: a start gap and the low cycle that ends it, with the wire level of f[0] on
the data line (R132, R133, R136). -/
theorem sync {gap : Nat} (hgap : gapThreshold p < gap)
    (h : Acquiring p (left + 1 + gap)
      (gapLine gap ++ (segLine false (!word.testBit 0) 1 ++ rest)) ⟨.syncWaitHigh, 0, 0, 0⟩ s) :
    AcquiringAfter (gap + 1) p left rest ⟨.bitWaitLowEnd, p.syncBits, word % 2 ^ p.syncBits, 0⟩ s := by
  obtain ⟨-, -, -, -, -, -, -, hsb, -⟩ := paramsLegal_facts h.legal
  obtain ⟨gap, rfl⟩ := Nat.exists_eq_add_of_le' (show 1 ≤ gap by omega)
  rw [gapLine, segLine_split_first] at h
  have hcounted := h.startMeasure.trans fun _ ht => ht.countHigh gap (Nat.le_add_left 1 _)
  have hdeclared := hcounted.trans fun _ ht => ht.declareSync (by omega)
  rwa [syncFrame_wire hsb, syncIndex_wire hsb, Nat.add_comm 1 gap] at hdeclared

end Acquiring

/-- Acceptance of a request under a stimulus (R201), with `left` active cycles before the timeout to come. -/
theorem acquiringAfter_request {s : State} {left : Nat} {c d : Bool} {rest : List StimulusCycle}
    (hl : ParamsLegal s.params) (hs : s.state = .idle)
    (hto : s.params.stallTimeout = 0 ∨ left < s.params.stallTimeout) (hd : Driven (reqLine c d ++ rest) s) :
    AcquiringAfter 1 s.params left rest ⟨.syncWaitHigh, 0, 0, 0⟩ s := by
  have hstep := step_accept hl hs hd.rst hd.readReq
  refine ⟨_, runsTo_one.mpr hstep, step_params hstep, hl, ?_, hd.step hstep, rfl⟩
  simpa [NoTimeoutWithin] using hto

/-- The DECODE cycle after the last sample point, in a cycle without reset. -/
theorem decode_delivers {p : Params} {i f g : Nat} {x : StimulusCycle} {rest : List StimulusCycle} {s : State}
    (h : Acquiring p 0 (x :: rest) ⟨.decode, i, f, g⟩ s) (hx : x.rst = false) :
    ∃ t, step s = .next t ∧ t.frame = f ∧ t.state = .idle ∧ t.done = true ∧ t.result = decodeResult p f := by
  obtain ⟨rfl, hl, -, hd, hr⟩ := h
  obtain ⟨hs, -, rfl, -⟩ := Registers.mk.inj hr
  exact ⟨_, step_decode hl hs (hd.rst.trans hx), rfl, rfl, rfl, rfl⟩

/-- One acquisition, from the request to the result: after the low cycle that declares sync, `l` low cycles are left
of bit SB, the first that the BitSampler takes, and `k` bits come after it. -/
theorem acquisition_delivers {s : State} {stimulus : List StimulusCycle} {word gap low high tail k l m : Nat}
    {c d : Bool} (hl : ParamsLegal s.params) (hs : s.state = .idle) (hword : word < 2 ^ s.params.frameBits)
    (hgap : gapThreshold s.params < gap) (hlow : 1 ≤ low) (hhigh : 1 ≤ high) (htail : 1 ≤ tail)
    (hk : s.params.syncBits + k + 1 = s.params.frameBits) (hm : m = gap + 1 + (l + k * (low + high) + 1))
    (hto : s.params.stallTimeout = 0 ∨ m < s.params.stallTimeout)
    (hstimulus : stimulus = reqLine c d ++ gapLine gap ++ segLine false (!word.testBit 0) 1 ++
      bitLinesFrom word low high s.params.syncBits k l ++ gapLine tail) :
    ∃ t, runsTo (m + 2) (driveStimulus stimulus s) t ∧ t.frame = word ∧ t.state = .idle ∧ t.done = true ∧
      t.result = decodeResult s.params word := by
  have hbudget : m = 0 + (l + k * (low + high) + 1) + 1 + gap := by omega
  have hcycles : m + 2 = 1 + (gap + 1) + (l + k * (low + high) + 1) + 1 := by omega
  rw [hbudget] at hto
  have hd : Driven stimulus (driveStimulus stimulus s) := driven_driveStimulus stimulus s
  rw (occs := .pos [1]) [hstimulus] at hd
  simp only [List.append_assoc] at hd
  obtain ⟨t, hrun, ht⟩ := ((acquiringAfter_request (s := driveStimulus stimulus s) hl hs hto hd).trans
    fun _ ht => ht.sync hgap).trans fun _ ht => ht.frame hlow hhigh k hk
  obtain ⟨u, hstep, hu⟩ : ∃ u, step t = .next u ∧ u.frame = word % 2 ^ s.params.frameBits ∧ u.state = .idle ∧
      u.done = true ∧ u.result = decodeResult s.params (word % 2 ^ s.params.frameBits) := by
    obtain ⟨tail, rfl⟩ := Nat.exists_eq_add_of_le' htail
    cases hrest : high - 1 with
    | zero => exact decode_delivers (hrest ▸ ht) rfl
    | succ n => exact decode_delivers (hrest ▸ ht) rfl
  rw [Nat.mod_eq_of_lt hword] at hu
  exact ⟨u, hcycles ▸ runsTo_snoc.mpr ⟨t, hrun, hstep⟩, hu⟩

/-- Settles O57: both stimuli are an acquisition of `acquisition_delivers`. With SB = 0 the low cycle that declares
sync is the first of FRAME, with SB = 1 it stands before FRAME1. -/
theorem aFrameStimulusDeliversItsResult : Obligations.AFrameStimulusDeliversItsResult := by
  intro s word gap low high tail c d hl hs hword hgap hlow hhigh htail
  obtain ⟨hsum, hsign, hvalue, hcheck, -⟩ := paramsLegal_facts hl
  obtain ⟨k, hk⟩ := Nat.exists_eq_add_of_le' (show 2 ≤ s.params.frameBits by omega)
  constructor
  · intro hsb m hm hto
    obtain ⟨l, rfl⟩ := Nat.exists_eq_add_of_le' hlow
    have hcut : frameLine s.params word (l + 1) high =
        segLine false (!word.testBit 0) 1 ++ bitLinesFrom word (l + 1) high s.params.syncBits (k + 1) l := by
      rw [frameLine_eq_bitLines, hk, bitLines_succ, bitLinesFrom_succ, hsb]
    refine acquisition_delivers (k := k + 1) (l := l) (c := c) (d := d) hl hs hword hgap hlow hhigh htail
      (by omega) ?_ hto (by simp only [hcut, List.append_assoc])
    rw [hm, show s.params.frameBits - 1 = k + 1 by omega]; omega
  · intro hsb m hm hto
    have hcut : frame1Line s.params word low high = bitLinesFrom word low high s.params.syncBits k low := by
      rw [frame1Line_eq_bitLines, hk, hsb, ← bitLines_succ]; rfl
    refine acquisition_delivers (k := k) (l := low) (c := c) (d := d) hl hs hword hgap hlow hhigh htail
      (by omega) ?_ hto (by rw [hcut])
    rw [hm, show s.params.frameBits - 2 = k by omega]; omega

end Sys2Proof.Machine
end

section
/-!
SUPPORT. One step by what happens in its cycle: reset, IDLE, the timeout, the rule of an active state, or DECODE
(10_state.md R32; 60_exceptions.md R236). The claims about every step go through this split.
-/
namespace Sys2Proof.Machine

/-- Everything a step that answers a next state can have done, with the four active states taken together. -/
theorem step_events {s t : State} (h : step s = .next t) : ∃ u, t = endCycle u ∧
    (((pinsNow s).rst = true ∧ u = resetRegisters s) ∨
     ((pinsNow s).rst = false ∧ s.state = .idle ∧ u = idleCycle (pinsNow s).readReq s) ∨
     ((pinsNow s).rst = false ∧ isActive s.state = true ∧ timeoutFires s = true ∧ u = stall s) ∨
     ((pinsNow s).rst = false ∧ isActive s.state = true ∧ timeoutFires s = false ∧
       u = activeRule (countActive (clearDone s))) ∨
     ((pinsNow s).rst = false ∧ s.state = .decode ∧ u = deliver (decodeResult s.params s.frame) s)) := by
  obtain ⟨hl, -, u, rfl, hu⟩ := step_cases h
  by_cases ha : isActive s.state = true ∧ (pinsNow s).rst = false
  · obtain ⟨ha, hr⟩ := ha
    cases hf : timeoutFires s with
    | true =>
      have ht := Host.Outcome.next.inj (h.symm.trans (step_stall hl ha hr hf))
      exact ⟨_, ht, .inr (.inr (.inl ⟨hr, ha, rfl, rfl⟩))⟩
    | false =>
      have ht := Host.Outcome.next.inj (h.symm.trans (step_activeRule hl ha hr hf))
      exact ⟨_, ht, .inr (.inr (.inr (.inl ⟨hr, ha, rfl, rfl⟩)))⟩
  · have hpassive : ∀ st, isActive st = true → (pinsNow s).rst = false → s.state ≠ st := by
      rintro _ hst hr rfl
      exact ha ⟨hst, hr⟩
    refine ⟨u, rfl, ?_⟩
    rcases hu with hu | hu | ⟨hr, hs, -⟩ | ⟨hr, hs, -⟩ | ⟨hr, hs, -⟩ | ⟨hr, hs, -⟩ | hu
    · exact .inl hu
    · exact .inr (.inl hu)
    · exact absurd hs (hpassive _ rfl hr)
    · exact absurd hs (hpassive _ rfl hr)
    · exact absurd hs (hpassive _ rfl hr)
    · exact absurd hs (hpassive _ rfl hr)
    · exact .inr (.inr (.inr (.inr hu)))

/-- When the timeout does not fire. -/
theorem timeoutFires_eq_false_iff (s : State) :
    timeoutFires s = false ↔ ¬ (0 < s.params.stallTimeout ∧ s.timeoutCount + 1 = s.params.stallTimeout) := by
  rw [← timeoutFires_iff, Bool.not_eq_true]

/-- What the rule of an active state can do, one case per operation: a wait for the level of the clock line, or one of
the six operations of the FrameSynchronizer and the BitSampler. -/
theorem activeRule_operations {s : State} (ha : isActive s.state = true) :
    (activeRule s = s ∧ stallLevel s.state = some (clockLevel s) ∧ s.state ≠ .syncMeasure) ∨
    (activeRule s = startMeasure s ∧ s.state = .syncWaitHigh ∧ clockLevel s = true) ∨
    (activeRule s = countHigh s ∧ s.state = .syncMeasure ∧ clockLevel s = true) ∨
    (activeRule s = declareSync s ∧ s.state = .syncMeasure ∧ clockLevel s = false ∧
      gapThreshold s.params < s.gapCount) ∨
    (activeRule s = rejectInterval s ∧ s.state = .syncMeasure ∧ clockLevel s = false ∧
      s.gapCount ≤ gapThreshold s.params) ∨
    (activeRule s = endPulse s ∧ s.state = .bitWaitHighEnd ∧ clockLevel s = false) ∨
    (activeRule s = samplePoint s ∧ s.state = .bitWaitLowEnd ∧ clockLevel s = true) := by
  rcases activeRule_cases ha with ⟨hs, h⟩ | ⟨hs, h⟩ | ⟨hs, h⟩ | ⟨hs, h⟩ <;> rw [h]
  · rcases syncWaitHighRule_cases s with ⟨hc, h⟩ | ⟨hc, h⟩ <;> simp [h, hs, hc, stallLevel]
  · rcases syncMeasureRule_cases s with ⟨hc, h⟩ | ⟨hc, hg, h⟩ | ⟨hc, hg, h⟩
    · simp [h, hs, hc]
    · exact .inr (.inr (.inr (.inl ⟨h, hs, hc, hg⟩)))
    · exact .inr (.inr (.inr (.inr (.inl ⟨h, hs, hc, hg⟩))))
  · rcases bitWaitHighEndRule_cases s with ⟨hc, h⟩ | ⟨hc, h⟩ <;> simp [h, hs, hc, stallLevel]
  · rcases bitWaitLowEndRule_cases s with ⟨hc, h⟩ | ⟨hc, h⟩ <;> simp [h, hs, hc, stallLevel]

/-- The next FSM state of a rule does not look at what the cycle writes beside it, `done` and `timeoutCount` (R32). -/
theorem activeRule_countActive_clearDone_state (s : State) :
    (activeRule (countActive (clearDone s))).state = (activeRule s).state := by
  cases hs : s.state
  case syncWaitHigh => cases hc : clockLevel s <;> simp [activeRule, hs, syncWaitHighRule, hc]
  case syncMeasure =>
    cases hc : clockLevel s
    · by_cases hg : gapThreshold s.params < s.gapCount <;> simp [activeRule, hs, syncMeasureRule, hc, hg]
    · simp [activeRule, hs, syncMeasureRule, hc]
  case bitWaitHighEnd => cases hc : clockLevel s <;> simp [activeRule, hs, bitWaitHighEndRule, hc]
  case bitWaitLowEnd => cases hc : clockLevel s <;> simp [activeRule, hs, bitWaitLowEndRule, hc]
  all_goals simp [activeRule, hs]

/-- The rule of an active state writes neither `done` nor the result registers (R38, R40). -/
theorem activeRule_done_result {s : State} (ha : isActive s.state = true) :
    (activeRule s).done = s.done ∧ (activeRule s).result = s.result := by
  rcases activeRule_operations ha with ⟨h, -⟩ | ⟨h, -⟩ | ⟨h, -⟩ | ⟨h, -⟩ | ⟨h, -⟩ | ⟨h, -⟩ | ⟨h, -⟩ <;> simp [h]

/-- A cycle of IDLE lowers `done` and keeps the result, with a request and without (R38, R204). -/
theorem idleCycle_done_result (request : Bool) (s : State) :
    (idleCycle request s).done = false ∧ (idleCycle request s).result = s.result := by
  cases request <;> simp [idleCycle, idleRule]

end Sys2Proof.Machine
end

section
/-!
SUPPORT. The invariant R48 cut into the parts that change together: what each FSM state says of `bitIndex` and
`gapCount`, what the frame register holds, and what a result is. An operation keeps the parts that it does not write.
-/
namespace Sys2Proof.Machine

/-! ### The parts -/

/-- What R48 and R201 say of `bitIndex` and `gapCount`, state by state. -/
def PlaceInv (p : Params) (st : FsmState) (bitIndex gapCount : Nat) : Prop :=
  match st with
  | .idle => gapCount = 0
  | .syncWaitHigh => bitIndex = 0 ∧ gapCount = 0
  | .syncMeasure => bitIndex = 0 ∧ 1 ≤ gapCount ∧ gapCount ≤ gapThreshold p + 1
  | .bitWaitHighEnd => p.syncBits ≤ bitIndex ∧ bitIndex < p.frameBits ∧ gapCount = 0
  | .bitWaitLowEnd => p.syncBits ≤ bitIndex ∧ bitIndex < p.frameBits ∧ gapCount = 0
  | .decode => bitIndex = p.frameBits ∧ gapCount = 0
  | .reserved6 => False
  | .reserved7 => False

/-- The clauses of `ControlInv` and `RegisterInv` about the FSM state are `PlaceInv`. -/
theorem placeInv_iff (p : Params) (st : FsmState) (i g : Nat) :
    PlaceInv p st i g ↔
      isReserved st = false ∧
      ((st = .bitWaitHighEnd ∨ st = .bitWaitLowEnd) → p.syncBits ≤ i ∧ i < p.frameBits) ∧
      (st = .decode → i = p.frameBits) ∧
      (st = .syncMeasure → 1 ≤ g ∧ g ≤ gapThreshold p + 1) ∧
      (st ≠ .syncMeasure → g = 0) ∧
      ((st = .syncWaitHigh ∨ st = .syncMeasure) → i = 0) := by
  cases st <;> simp [PlaceInv, isReserved, and_assoc, and_comm]

/-- The frame register with bits 0 to `bitIndex - 1` written: it keeps its width and every other bit is 0 (R34, R48). -/
def FrameInv (p : Params) (bitIndex frame : Nat) : Prop :=
  bitIndex ≤ p.frameBits ∧ frame < 2 ^ p.frameBits ∧
  ∀ i < p.frameBits, bitIndex ≤ i → frame.testBit i = false

theorem frameInv_zero (p : Params) : FrameInv p 0 0 :=
  ⟨Nat.zero_le _, Nat.two_pow_pos _, fun i _ _ => Nat.zero_testBit i⟩

/-- Writing the next bit of the frame (R136, R152). -/
theorem FrameInv.writeBit {p : Params} {i f : Nat} (h : FrameInv p i f) (hi : i < p.frameBits) (v : Bool) :
    FrameInv p (i + 1) (writeBit f i v) := by
  obtain ⟨-, hwidth, hzero⟩ := h
  refine ⟨hi, writeBit_lt v hwidth hi, fun j hj hij => ?_⟩
  rw [testBit_writeBit, if_neg (by omega)]
  exact hzero j hj (by omega)

/-- `ResultInv` as a predicate of the result registers under the parameters. -/
def ResultFits (p : Params) (r : Result) : Prop :=
  r.magnitude < 2 ^ p.valueBits ∧
  r.quotient < 2 ^ p.valueBits ∧
  r.remainder < 2 ^ p.scaleWidth ∧
  (r.status = .ok → r.magnitude = r.quotient * p.scaleFactor + r.remainder ∧ r.remainder < p.scaleFactor) ∧
  (r.status ≠ .ok → r.sign = false ∧ r.magnitude = 0 ∧ r.quotient = 0 ∧ r.remainder = 0) ∧
  (r.status = .stall → 0 < p.stallTimeout)

theorem resultInv_iff (s : State) : ResultInv s ↔ ResultFits s.params s.result := Iff.rfl

/-- The scaler's laws (R179): S is at least 1 and fits SCW bits. -/
theorem resultFits_okResult {p : Params} (hl : ParamsLegal p) (sign : Bool) {m : Nat} (hm : m < 2 ^ p.valueBits) :
    ResultFits p (okResult p sign m) := by
  obtain ⟨-, -, -, -, -, hpos, hwidth, -, -⟩ := paramsLegal_facts hl
  have hrem : scaledRemainder p m < p.scaleFactor := Nat.mod_lt m hpos
  exact ⟨hm, Nat.lt_of_le_of_lt (scaledQuotient_le p m) hm, Nat.lt_trans hrem hwidth,
    fun _ => ⟨(Nat.div_add_mod' m p.scaleFactor).symm, hrem⟩, fun h => absurd rfl h, fun h => nomatch h⟩

/-- Before the first result, and for INVALID and STALL, the registers hold zeros (R40, R174, R232). -/
theorem resultFits_of_zeros {p : Params} {r : Result} (hok : r.status ≠ .ok)
    (hstall : r.status = .stall → 0 < p.stallTimeout)
    (hz : r.sign = false ∧ r.magnitude = 0 ∧ r.quotient = 0 ∧ r.remainder = 0) : ResultFits p r := by
  have ⟨_, hm, hq, hr⟩ := hz
  exact ⟨hm ▸ Nat.two_pow_pos _, hq ▸ Nat.two_pow_pos _, hr ▸ Nat.two_pow_pos _, fun h => absurd h hok,
    fun _ => hz, hstall⟩

theorem resultFits_noResult (p : Params) : ResultFits p noResult :=
  resultFits_of_zeros (by decide) (fun h => nomatch h) (by decide)

theorem resultFits_stallResult {p : Params} (h : 0 < p.stallTimeout) : ResultFits p stallResult :=
  resultFits_of_zeros (by decide) (fun _ => h) (by decide)

theorem resultFits_decodeResult {p : Params} (hl : ParamsLegal p) (frame : Nat) :
    ResultFits p (decodeResult p frame) := by
  rcases decodeResult_cases p frame with ⟨-, h⟩ | ⟨-, h⟩ <;> rw [h]
  · exact resultFits_okResult hl _ (valueField_lt p frame)
  · exact resultFits_of_zeros (by decide) (fun h => nomatch h) (by decide)

theorem decodeResult_status_ne_none (p : Params) (frame : Nat) : (decodeResult p frame).status ≠ .none := by
  rcases decodeResult_cases p frame with ⟨-, h⟩ | ⟨-, h⟩ <;> simp [h, okResult, invalidResult]

/-! ### The whole -/

/-- A sound state, part by part. -/
structure SoundParts (s : State) : Prop where
  legal : ParamsLegal s.params
  place : PlaceInv s.params s.state s.bitIndex s.gapCount
  frame : FrameInv s.params s.bitIndex s.frame
  timeout : s.timeoutCount ≤ s.params.stallTimeout - 1
  clkStages : s.clkSync.length = s.params.syncStages
  dataStages : s.dataSync.length = s.params.syncStages
  done : s.done = true → s.state = .idle ∧ s.result.status ≠ .none
  result : ResultFits s.params s.result

/-- R48's clause about the timeout is the width of its counter (R36). -/
theorem sound_iff_soundParts (s : State) : Sound s ↔ SoundParts s := by
  constructor
  · rintro ⟨hl, ⟨hres, hbit, hdec, hgap, hgap0, -, hzero⟩, ⟨hsync, hi, hf, hto, hclk, hdata, hdone⟩, hr⟩
    exact ⟨hl, (placeInv_iff _ _ _ _).mpr ⟨hres, hbit, hdec, hgap, hgap0, hsync⟩, ⟨hi, hf, hzero⟩, hto, hclk, hdata,
      hdone, (resultInv_iff s).mp hr⟩
  · rintro ⟨hl, hplace, ⟨hi, hf, hzero⟩, hto, hclk, hdata, hdone, hr⟩
    obtain ⟨hres, hbit, hdec, hgap, hgap0, hsync⟩ := (placeInv_iff _ _ _ _).mp hplace
    exact ⟨hl, ⟨hres, hbit, hdec, hgap, hgap0, fun hpos _ => by omega, hzero⟩,
      ⟨hsync, hi, hf, hto, hclk, hdata, hdone⟩, (resultInv_iff s).mpr hr⟩

namespace SoundParts

variable {s : State}

/-- In a cycle that has lowered `done`, what the invariant says of a high `done` holds. -/
theorem of_done_low {q : Prop} (hd : s.done = false) (hd' : s.done = true) : q :=
  absurd (hd.symm.trans hd') Bool.false_ne_true

/-- What the invariant says of `bitIndex` and `gapCount` in a known FSM state. -/
theorem placeAt {st : FsmState} (h : SoundParts s) (hs : s.state = st) :
    PlaceInv s.params st s.bitIndex s.gapCount := hs ▸ h.place

/-! ### Each operation keeps the invariant -/

/-- The reset state under legal parameters (R260). -/
theorem resetOf {p : Params} (hl : ParamsLegal p) : SoundParts (State.resetOf p) where
  legal := hl
  place := rfl
  frame := frameInv_zero p
  timeout := Nat.zero_le _
  clkStages := List.length_replicate
  dataStages := List.length_replicate
  done := nofun
  result := resultFits_noResult p

theorem endCycle (h : SoundParts s) : SoundParts (endCycle s) :=
  { h with
    clkStages := length_shiftStages _ h.clkStages
    dataStages := length_shiftStages _ h.dataStages }

theorem resetRegisters (h : SoundParts s) : SoundParts (resetRegisters s) :=
  { h with
    place := rfl
    frame := frameInv_zero s.params
    timeout := Nat.zero_le _
    done := nofun
    result := resultFits_noResult s.params }

theorem clearDone (h : SoundParts s) : SoundParts (clearDone s) := { h with done := nofun }

theorem accept (h : SoundParts s) (hd : s.done = false) : SoundParts (accept s) :=
  { h with
    place := ⟨rfl, rfl⟩
    frame := frameInv_zero s.params
    timeout := Nat.zero_le _
    done := of_done_low hd }

/-- A cycle of IDLE (R200). -/
theorem idleCycle (h : SoundParts s) (request : Bool) : SoundParts (idleCycle request s) := by
  cases request
  · exact h.clearDone
  · exact h.clearDone.accept rfl

/-- The timeout (R232): `frame` and `bitIndex` stay as they were. -/
theorem stall (h : SoundParts s) (hf : timeoutFires s = true) : SoundParts (stall s) :=
  { h with
    place := rfl
    timeout := Nat.zero_le _
    done := fun _ => ⟨rfl, nofun⟩
    result := resultFits_stallResult ((timeoutFires_iff s).mp hf).1 }

/-- The end of a DECODE cycle (R170). -/
theorem deliver (h : SoundParts s) (hs : s.state = .decode) :
    SoundParts (deliver (decodeResult s.params s.frame) s) :=
  { h with
    place := (h.placeAt hs).2
    done := fun _ => ⟨rfl, decodeResult_status_ne_none s.params s.frame⟩
    result := resultFits_decodeResult h.legal s.frame }

/-- An active cycle that the timeout does not end keeps the count below TO (R36). -/
theorem countActive (h : SoundParts s) (hf : timeoutFires s = false) : SoundParts (countActive s) :=
  { h with
    timeout := by
      have hle := h.timeout
      have hne := (timeoutFires_eq_false_iff s).mp hf
      simp only [countActive_timeoutCount, countActive_params, countedActive]
      split <;> omega }

/-- Declared sync, with SB = 0 and with SB = 1 (R133, R136): the frame holds SB bits, and has room for more. -/
theorem declareSync (h : SoundParts s) (hs : s.state = .syncMeasure) (hd : s.done = false) :
    SoundParts (declareSync s) := by
  obtain ⟨hsum, hsign, hvalue, hcheck, -, -, -, hsb, -⟩ := paramsLegal_facts h.legal
  obtain ⟨hindex, -, -⟩ := h.placeAt hs
  have hframe := h.frame
  rw [hindex] at hframe
  have hsync : s.params.syncBits = syncIndex s.params.syncBits s.bitIndex ∧
      FrameInv s.params (syncIndex s.params.syncBits s.bitIndex)
        (syncFrame s.params.syncBits s.frame (dataLevel s)) := by
    rcases Nat.le_one_iff_eq_zero_or_eq_one.mp hsb with h0 | h1
    · rw [h0, syncIndex_zero, syncFrame_zero, hindex]
      exact ⟨rfl, hframe⟩
    · rw [h1, syncIndex_one, syncFrame_one]
      exact ⟨rfl, hframe.writeBit (by omega) _⟩
  obtain ⟨hsyncIndex, hsyncFrame⟩ := hsync
  exact { h with
    place := ⟨Nat.le_of_eq hsyncIndex, by rw [declareSync_bitIndex, ← hsyncIndex, declareSync_params]; omega, rfl⟩
    frame := hsyncFrame
    done := of_done_low hd }

/-- The sample point (R152): one more bit is written, and the last one goes to DECODE. -/
theorem samplePoint (h : SoundParts s) (hs : s.state = .bitWaitLowEnd) (hd : s.done = false) :
    SoundParts (samplePoint s) := by
  obtain ⟨hsb, hlt, hgap⟩ := h.placeAt hs
  have hplace : PlaceInv s.params (stateAfterSample s.params.frameBits s.bitIndex) (s.bitIndex + 1) s.gapCount := by
    rcases stateAfterSample_cases s.params.frameBits s.bitIndex with ⟨hlast, hst⟩ | ⟨hmore, hst⟩ <;> rw [hst]
    · exact ⟨hlast, hgap⟩
    · exact ⟨by omega, by omega, hgap⟩
  exact { h with
    place := hplace
    frame := h.frame.writeBit hlt _
    done := of_done_low hd }

/-- The rule of an active state, operation by operation. -/
theorem activeRule (h : SoundParts s) (ha : isActive s.state = true) (hd : s.done = false) :
    SoundParts (activeRule s) := by
  rcases activeRule_operations ha with ⟨hrule, -⟩ | ⟨hrule, hs, -⟩ | ⟨hrule, hs, -⟩ | ⟨hrule, hs, -⟩ |
    ⟨hrule, hs, -⟩ | ⟨hrule, hs, -⟩ | ⟨hrule, hs, -⟩ <;> rw [hrule]
  · exact h
  · obtain ⟨hindex, -⟩ := h.placeAt hs
    exact { h with place := ⟨hindex, Nat.le_refl 1, Nat.le_add_left 1 _⟩, done := of_done_low hd }
  · obtain ⟨hindex, -, -⟩ := h.placeAt hs
    have hplace : PlaceInv s.params s.state s.bitIndex (min (s.gapCount + 1) (gapThreshold s.params + 1)) := by
      rw [hs]
      exact ⟨hindex, by omega, Nat.min_le_right _ _⟩
    exact { h with place := hplace }
  · exact h.declareSync hs hd
  · obtain ⟨hindex, -, -⟩ := h.placeAt hs
    exact { h with place := ⟨hindex, rfl⟩, done := of_done_low hd }
  · obtain ⟨hsb, hlt, hgap⟩ := h.placeAt hs
    exact { h with place := ⟨hsb, hlt, hgap⟩, done := of_done_low hd }
  · exact h.samplePoint hs hd

end SoundParts

end Sys2Proof.Machine
end

section
/-!
The claims about the state: the invariant (R48), the next FSM state (R32), `done` and the results (R38, R40), the
sampled lines (R37) and the state after elaboration.
-/
namespace Sys2Proof.Machine

/-- Settles O54: whatever happens in the cycle, its operations keep the invariant part by part. -/
theorem everyStepKeepsTheInvariant : Obligations.EveryStepKeepsTheInvariant := by
  intro s t hsound hstep
  have h := (sound_iff_soundParts s).mp hsound
  obtain ⟨u, rfl, hu⟩ := step_events hstep
  refine (sound_iff_soundParts _).mpr (SoundParts.endCycle ?_)
  rcases hu with ⟨-, rfl⟩ | ⟨-, -, rfl⟩ | ⟨-, -, hf, rfl⟩ | ⟨-, ha, hf, rfl⟩ | ⟨-, hs, rfl⟩
  · exact h.resetRegisters
  · exact h.idleCycle _
  · exact h.stall hf
  · exact (h.clearDone.countActive hf).activeRule ha rfl
  · exact h.deliver hs

/-- Settles O48: the timeout goes to IDLE, and else each operation to the state that its rule names. -/
theorem theStateRegisterTakesExactlyTheNextValueOfItsRule :
    Obligations.TheStateRegisterTakesExactlyTheNextValueOfItsRule := by
  intro s t hstep hrst
  obtain ⟨u, rfl, hu⟩ := step_events hstep
  rcases hu with ⟨hr, -⟩ | ⟨-, hs, rfl⟩ | ⟨-, ha, hf, rfl⟩ | ⟨-, ha, hf, rfl⟩ | ⟨-, hs, rfl⟩
  · exact absurd (hrst.symm.trans hr) Bool.false_ne_true
  · cases hq : (pinsNow s).readReq <;> simp [hs, isActive, idleCycle, idleRule]
  · rw [if_pos ⟨ha, (timeoutFires_iff s).mp hf⟩]
    rfl
  · rw [if_neg fun h => (timeoutFires_eq_false_iff s).mp hf h.2, endCycle_state,
      activeRule_countActive_clearDone_state]
    rcases activeRule_operations ha with ⟨hrule, hwait, hne⟩ | ⟨hrule, hs, hc⟩ | ⟨hrule, hs, hc⟩ |
      ⟨hrule, hs, hc, hg⟩ | ⟨hrule, hs, hc, hg⟩ | ⟨hrule, hs, hc⟩ | ⟨hrule, hs, hc⟩ <;> rw [hrule]
    · cases hs : s.state <;> simp_all [stallLevel]
    · simp [hs, hc]
    · simp [hs, hc]
    · simp [hs, hc, hg]
    · simp [hs, hc, Nat.not_lt.mpr hg]
    · simp [hs, hc]
    · simp [hs, hc, stateAfterSample]
  · simp [hs, isActive]

/-- Settles O49: only `deliver` raises `done`, in DECODE and in the timeout; every other cycle lowers it. -/
theorem doneFollowsExactlyDecodeAndTheTimeout : Obligations.DoneFollowsExactlyDecodeAndTheTimeout := by
  intro s t hstep
  rw [← timeoutFires_iff]
  obtain ⟨u, rfl, hu⟩ := step_events hstep
  rcases hu with ⟨hr, rfl⟩ | ⟨hr, hs, rfl⟩ | ⟨hr, ha, hf, rfl⟩ | ⟨hr, ha, hf, rfl⟩ | ⟨hr, hs, rfl⟩
  · simp [hr]
  · simp [hs, isActive, idleCycle_done_result]
  · simp [hr, ha, hf]
  · have hs : s.state ≠ .decode := fun hs => by simp [hs, isActive] at ha
    simp [hf, hs, activeRule_done_result (s := countActive (clearDone s)) ha]
  · simp [hr, hs]

/-- Settles O50: the operations that write the result registers raise `done` or are reset. -/
theorem resultsChangeOnlyWithDoneOrReset : Obligations.ResultsChangeOnlyWithDoneOrReset := by
  intro s t hstep hdone hrst
  obtain ⟨u, rfl, hu⟩ := step_events hstep
  rcases hu with ⟨hr, -⟩ | ⟨-, -, rfl⟩ | ⟨-, -, -, rfl⟩ | ⟨-, ha, -, rfl⟩ | ⟨-, -, rfl⟩
  · exact absurd (hrst.symm.trans hr) Bool.false_ne_true
  · exact (idleCycle_done_result _ s).2
  · exact absurd hdone.symm Bool.false_ne_true
  · exact (activeRule_done_result (s := countActive (clearDone s)) ha).2
  · exact absurd hdone.symm Bool.false_ne_true

/-- Settles O11: `sampled` looks at the free value only where the pin changes. -/
theorem aHeldPinIsSampledAtItsLevel : Obligations.AHeldPinIsSampledAtItsLevel := by
  intro s
  refine ⟨fun h => ?_, fun h => ?_, fun h => ?_, fun h => ?_⟩
  · rw [clkPin, h]; rfl
  · rw [clkPin, h]; rfl
  · rw [dataPin, h]; rfl
  · rw [dataPin, h]; rfl

/-- What elaboration accepts is legal, and starts in its reset state (R233, R262). -/
theorem elaborate_eq_ok {p : Params} {s : State} (h : elaborate p = .ok s) :
    ParamsLegal p ∧ s = State.resetOf p := by
  unfold elaborate at h
  cases hp : configProblem p with
  | some e => rw [hp] at h; cases h
  | none => rw [hp] at h; exact ⟨hp, (Except.ok.inj h).symm⟩

/-- Settles O53: `State.reset` is the reset state of `defaultParams`, which are legal. -/
theorem everyInstanceStartsSound : Obligations.EveryInstanceStartsSound := by
  have hreset : ∀ p, ParamsLegal p → Sound (State.resetOf p) := fun p hl =>
    (sound_iff_soundParts _).mpr (SoundParts.resetOf hl)
  refine ⟨hreset defaultParams (by decide), fun p s h => ?_⟩
  obtain ⟨hl, rfl⟩ := elaborate_eq_ok h
  exact hreset p hl

end Sys2Proof.Machine
end

section
/-!
SUPPORT. The encodings of the three formats row by row (30_encoding.md): each row from its fields, and for each decoder
one lemma that says which words it reads and as what.
-/
namespace Sys2Proof

/-! ### HOST and STATE words -/

theorem toNat_hostCode (rst readReq : Bool) :
    (hostCode rst readReq).toNat = 2 * bitValue rst + bitValue readReq := by
  cases rst <;> cases readReq <;> rfl

theorem hostCode_of_bits : ∀ w < 4, (hostCode (w.testBit 1) (w.testBit 0)).toNat = w := by decide

/-- The HOST words are the codes of the four commands (R84). -/
theorem decodeHost_eq_ok {w : Nat} {i : Instr} :
    decodeHost w = .ok i ↔ ∃ rst readReq, w = (hostCode rst readReq).toNat ∧ i = hostRow rst readReq := by
  constructor
  · intro h
    unfold decodeHost at h
    split at h
    case isTrue hw => exact ⟨_, _, (hostCode_of_bits w hw).symm, (Except.ok.inj h).symm⟩
    case isFalse => cases h
  · rintro ⟨rst, readReq, rfl, rfl⟩
    cases rst <;> cases readReq <;> rfl

theorem stateOfCode_eq_some {w : Nat} {st : FsmState} : stateOfCode w = some st ↔ w = (stateCode st).toNat := by
  constructor
  · intro h
    unfold stateOfCode at h
    split at h <;> cases h <;> rfl
  · rintro rfl
    cases st <;> rfl

/-- The STATE words are the codes of the eight states (R82, R83). -/
theorem decodeState_eq_ok {w : Nat} {i : Instr} :
    decodeState w = .ok i ↔ ∃ st, w = (stateCode st).toNat ∧ i = stateRow st := by
  simp only [← stateOfCode_eq_some]
  unfold decodeState
  cases stateOfCode w with
  | none => simp
  | some st => simp [eq_comm]

/-! ### FRAME words -/

/-- The eight values of a 3-bit CHECK field. -/
theorem check_cases {check : Nat} (h : check < 8) :
    check = 0 ∨ check = 1 ∨ check = 2 ∨ check = 3 ∨ check = 4 ∨ check = 5 ∨ check = 6 ∨ check = 7 := by omega

/-- The FRAME row of the fields of a frame (R88). -/
def frameRow (check : Nat) (sign : Bool) (value : Nat) : Instr :=
  match check with
  | 0 => .invalidC0 sign value
  | 1 => .invalidC1 sign value
  | 2 => .invalidC2 sign value
  | 3 => .invalidC3 sign value
  | 4 => if sign then .validNeg value else .validPos value
  | 5 => .invalidC5 sign value
  | 6 => .invalidC6 sign value
  | _ => .invalidC7 sign value

theorem frameWord_eq (check : Nat) (sign : Bool) (value : Nat) :
    frameWord 20 check sign value = value + bitValue sign * 1048576 + check * 2097152 := rfl

theorem testBit_eq_bitValue (w i : Nat) : bitValue (w.testBit i) = w / 2 ^ i % 2 := by
  rw [Nat.testBit_eq_decide_div_mod_eq]
  rcases Nat.mod_two_eq_zero_or_one (w / 2 ^ i) with h | h <;> simp [h, bitValue]

theorem bitValue_inj {a b : Bool} (h : bitValue a = bitValue b) : a = b := by
  cases a <;> cases b <;> simp_all [bitValue]

/-- A word is put together again from its fields (R80). -/
theorem frameWord_of_fields (w : Nat) : frameWord 20 (w / 2097152) (w.testBit 20) (bitSlice w 0 20) = w := by
  simp only [frameWord_eq, testBit_eq_bitValue, bitSlice]
  omega

section Fields

variable {value : Nat} (check : Nat) (sign : Bool) (hv : value < 1048576)
include hv

theorem frameWord_check : frameWord 20 check sign value / 2097152 = check := by
  have := bitValue_le_one sign
  rw [frameWord_eq]
  omega

theorem frameWord_sign : (frameWord 20 check sign value).testBit 20 = sign := by
  have := bitValue_le_one sign
  refine bitValue_inj ?_
  rw [testBit_eq_bitValue, frameWord_eq]
  omega

theorem frameWord_value : bitSlice (frameWord 20 check sign value) 0 20 = value := by
  have := bitValue_le_one sign
  rw [bitSlice, frameWord_eq]
  omega

end Fields

/-- The FRAME words are those of 24 bits, each read by its fields (R88, R90). -/
theorem decodeFrame_eq_ok {w : Nat} {i : Instr} :
    decodeFrame w = .ok i ↔ ∃ check sign value, check < 8 ∧ value < 1048576 ∧
      w = frameWord 20 check sign value ∧ i = frameRow check sign value := by
  constructor
  · intro h
    refine ⟨w / 2097152, w.testBit 20, bitSlice w 0 20, ?_, bitSlice_lt w 0 20, (frameWord_of_fields w).symm, ?_⟩
    all_goals
      unfold decodeFrame at h
      dsimp only at h
      split at h <;> cases h <;> rename_i hcheck <;> simp [hcheck, frameRow]
  · rintro ⟨check, sign, value, hc, hv, rfl, rfl⟩
    unfold decodeFrame
    rw [frameWord_check check sign hv, frameWord_sign check sign hv, frameWord_value check sign hv]
    rcases check_cases hc with rfl | rfl | rfl | rfl | rfl | rfl | rfl | rfl <;> rfl

/-! ### Every row -/

/-- The rows of the table are those of the three formats. -/
theorem instr_cases (i : Instr) :
    (∃ rst readReq, i = hostRow rst readReq) ∨ (∃ st, i = stateRow st) ∨
    (∃ check sign value, check < 8 ∧ i = frameRow check sign value) := by
  cases i with
  | reset q => exact .inl ⟨true, q, rfl⟩
  | read => exact .inl ⟨false, true, rfl⟩
  | noCommand => exact .inl ⟨false, false, rfl⟩
  | idle => exact .inr (.inl ⟨.idle, rfl⟩)
  | syncWaitHigh => exact .inr (.inl ⟨.syncWaitHigh, rfl⟩)
  | syncMeasure => exact .inr (.inl ⟨.syncMeasure, rfl⟩)
  | bitWaitHighEnd => exact .inr (.inl ⟨.bitWaitHighEnd, rfl⟩)
  | bitWaitLowEnd => exact .inr (.inl ⟨.bitWaitLowEnd, rfl⟩)
  | decode => exact .inr (.inl ⟨.decode, rfl⟩)
  | reserved6 => exact .inr (.inl ⟨.reserved6, rfl⟩)
  | reserved7 => exact .inr (.inl ⟨.reserved7, rfl⟩)
  | validPos v => exact .inr (.inr ⟨4, false, v, by decide, rfl⟩)
  | validNeg v => exact .inr (.inr ⟨4, true, v, by decide, rfl⟩)
  | invalidC0 b v => exact .inr (.inr ⟨0, b, v, by decide, rfl⟩)
  | invalidC1 b v => exact .inr (.inr ⟨1, b, v, by decide, rfl⟩)
  | invalidC2 b v => exact .inr (.inr ⟨2, b, v, by decide, rfl⟩)
  | invalidC3 b v => exact .inr (.inr ⟨3, b, v, by decide, rfl⟩)
  | invalidC5 b v => exact .inr (.inr ⟨5, b, v, by decide, rfl⟩)
  | invalidC6 b v => exact .inr (.inr ⟨6, b, v, by decide, rfl⟩)
  | invalidC7 b v => exact .inr (.inr ⟨7, b, v, by decide, rfl⟩)

/-- A HOST row: always well-formed, and its word the code of the command. -/
theorem hostRow_encoding (rst readReq : Bool) :
    formatOf (hostRow rst readReq) = .host ∧ (hostRow rst readReq).wellFormed = true ∧
    encode (hostRow rst readReq) = (hostCode rst readReq).toNat := by
  cases rst <;> cases readReq <;> exact ⟨rfl, rfl, rfl⟩

/-- A STATE row: always well-formed, and its word the code of the state. -/
theorem stateRow_encoding (st : FsmState) :
    formatOf (stateRow st) = .state ∧ (stateRow st).wellFormed = true ∧
    encode (stateRow st) = (stateCode st).toNat := by
  cases st <;> exact ⟨rfl, rfl, rfl⟩

/-- A FRAME row: well-formed when its value fits, and its word that of the fields. -/
theorem frameRow_encoding {check : Nat} (sign : Bool) (value : Nat) (hc : check < 8) :
    formatOf (frameRow check sign value) = .frame ∧
    ((frameRow check sign value).wellFormed = true ↔ value < 1048576) ∧
    encode (frameRow check sign value) = frameWord 20 check sign value := by
  have hfits := decide_eq_true_iff (p := value < 1048576)
  rcases check_cases hc with rfl | rfl | rfl | rfl | rfl | rfl | rfl | rfl <;> cases sign <;>
    exact ⟨rfl, hfits, rfl⟩

end Sys2Proof
end

section
/-!
The claims about the encodings (30_encoding.md).
-/
namespace Sys2Proof

/-- Settles O1: each format's decoder reads the word that the row's fields make. -/
theorem decodingAnEncodedInstructionGivesItBack : Obligations.DecodingAnEncodedInstructionGivesItBack := by
  intro i hwf
  rcases instr_cases i with ⟨rst, q, rfl⟩ | ⟨st, rfl⟩ | ⟨c, b, v, hc, rfl⟩
  · obtain ⟨hf, -, he⟩ := hostRow_encoding rst q
    rw [hf, he]
    exact decodeHost_eq_ok.mpr ⟨rst, q, rfl, rfl⟩
  · obtain ⟨hf, -, he⟩ := stateRow_encoding st
    rw [hf, he]
    exact decodeState_eq_ok.mpr ⟨st, rfl, rfl⟩
  · obtain ⟨hf, hv, he⟩ := frameRow_encoding b v hc
    rw [hf, he]
    exact decodeFrame_eq_ok.mpr ⟨c, b, v, hc, hv.mp hwf, rfl, rfl⟩

/-- Settles O2: a word that a decoder reads is the one its fields make. -/
theorem encodingADecodedWordGivesItBack : Obligations.EncodingADecodedWordGivesItBack := by
  intro f w i h
  cases f with
  | host =>
    obtain ⟨rst, q, rfl, rfl⟩ := decodeHost_eq_ok.mp h
    exact hostRow_encoding rst q
  | state =>
    obtain ⟨st, rfl, rfl⟩ := decodeState_eq_ok.mp h
    exact stateRow_encoding st
  | frame =>
    obtain ⟨c, b, v, hc, hv, rfl, rfl⟩ := decodeFrame_eq_ok.mp h
    obtain ⟨hf, hwf, he⟩ := frameRow_encoding b v hc
    exact ⟨hf, hwf.mpr hv, he⟩

end Sys2Proof
end

section
/-!
SUPPORT. A frame word under the masks of the table (R88), and the rows of a cycle: the words it stands under, format by
format, and the step as the row of each.
-/
namespace Sys2Proof

/-- A mask of `width` ones from bit `lo` keeps one field. -/
theorem land_mask (w lo width : Nat) : w &&& ((2 ^ width - 1) * 2 ^ lo) = bitSlice w lo width * 2 ^ lo := by
  refine Nat.eq_of_testBit_eq fun i => ?_
  rw [Nat.testBit_and, Nat.testBit_mul_two_pow, Nat.testBit_mul_two_pow, Nat.testBit_two_pow_sub_one, testBit_bitSlice]
  by_cases h : lo ≤ i
  · simp [h, Bool.and_comm]
  · simp [h]

/-- The frame word of its fields under the table's masks. -/
theorem frameWord_land_masks {value : Nat} (check : Nat) (sign : Bool) (hc : check < 8) (hv : value < 1048576) :
    frameWord 20 check sign value &&& 0xE00000 = check * 2 ^ 21 ∧
    frameWord 20 check sign value &&& 0xF00000 = (2 * check + bitValue sign) * 2 ^ 20 ∧
    frameWord 20 check sign value &&& 0x0FFFFF = value := by
  have hs := bitValue_le_one sign
  refine ⟨(land_mask _ 21 3).trans ?_, (land_mask _ 20 4).trans ?_, (land_mask _ 0 20).trans ?_⟩ <;>
    rw [bitSlice, frameWord_eq] <;> omega

theorem bitSlice_zero_of_lt {w width : Nat} (h : w < 2 ^ width) : bitSlice w 0 width = w := by
  rw [bitSlice, Nat.pow_zero, Nat.div_one, Nat.mod_eq_of_lt h]

/-- A word of 24 bits has fields. -/
theorem exists_frameWord {w : Nat} (h : w < 2 ^ 24) :
    ∃ check sign value, check < 8 ∧ value < 1048576 ∧ w = frameWord 20 check sign value :=
  ⟨w / 2097152, w.testBit 20, bitSlice w 0 20, by omega, bitSlice_lt w 0 20, (frameWord_of_fields w).symm⟩

theorem decode_frameWord {check value : Nat} (sign : Bool) (hc : check < 8) (hv : value < 1048576) :
    decode .frame (frameWord 20 check sign value) = .ok (frameRow check sign value) :=
  decodeFrame_eq_ok.mpr ⟨check, sign, value, hc, hv, rfl, rfl⟩

end Sys2Proof

namespace Sys2Proof.Machine

/-- The fields of a frame under the default layout. -/
theorem fields_frameWord {p : Params} {check value : Nat} (sign : Bool) (hp : hasDefaultLayout p = true)
    (hc : check < 8) (hv : value < 1048576) :
    p.checkExpected = 4 ∧ checkField p (frameWord 20 check sign value) = check ∧
    signField p (frameWord 20 check sign value) = sign ∧ valueField p (frameWord 20 check sign value) = value := by
  obtain ⟨-, hvb, -, hcb, hce⟩ := of_decide_eq_true hp
  have hs := bitValue_le_one sign
  refine ⟨hce, ?_, ?_, ?_⟩
  · rw [checkField, hvb, hcb, bitSlice, frameWord_eq]
    omega
  · rw [signField, hvb, frameWord_sign check sign hv]
  · rw [valueField, hvb, frameWord_value check sign hv]

/-- A FRAME row delivers what DECODE loads for the frame of its fields (R88, R174, R175). -/
theorem exec_frameRow {check value : Nat} (sign : Bool) {s : State} (hp : hasDefaultLayout s.params = true)
    (hc : check < 8) (hv : value < 1048576) :
    exec (frameRow check sign value) s =
      .next (deliver (decodeResult s.params (frameWord 20 check sign value)) s) := by
  obtain ⟨hce, hcheck, hsign, hvalue⟩ := fields_frameWord sign hp hc hv
  rw [decodeResult, hce, hcheck, hsign, hvalue]
  rcases check_cases hc with rfl | rfl | rfl | rfl | rfl | rfl | rfl | rfl <;> cases sign <;> rfl

/-- The STATE row of a cycle is the cycle of its state, with the request that the ports make. -/
theorem exec_stateRow (s : State) : exec (stateRow s.state) s = stateCycle (pinsNow s).readReq s := by
  cases hs : s.state <;> simp [stateRow, exec, stateCycle, hs, execIdle]

/-! ### The words of a cycle -/

theorem fetch_of_isReserved {s : State} (h : isReserved s.state = true) : fetch s = stateRow s.state := if_pos h

theorem fetch_of_not_isReserved {s : State} (h : isReserved s.state = false) :
    fetch s = hostRow (pinsNow s).rst (pinsNow s).readReq := by
  simp [fetch, h]

theorem mem_cycleWords_host {s : State} {w : Nat} :
    (Format.host, w) ∈ cycleWords s ↔ isReserved s.state = false ∧ w = hostWord s := by
  unfold cycleWords
  cases isReserved s.state <;> cases (pinsNow s).rst <;> simp

theorem mem_cycleWords_state {s : State} {w : Nat} :
    (Format.state, w) ∈ cycleWords s ↔ (isReserved s.state = true ∨ (pinsNow s).rst = false) ∧ w = stateWord s := by
  unfold cycleWords
  cases isReserved s.state <;> cases (pinsNow s).rst <;> simp

theorem mem_cycleWords_frame {s : State} {w : Nat} :
    (Format.frame, w) ∈ cycleWords s ↔
      s.state = .decode ∧ (pinsNow s).rst = false ∧ hasDefaultLayout s.params = true ∧ w = s.frame := by
  unfold cycleWords
  cases hs : s.state <;> cases (pinsNow s).rst <;> simp [isReserved]

/-- A word that a cycle stands under is a row of the table, and the step is the outcome of that row. -/
theorem row_of_cycleWord {s : State} {f : Format} {w : Nat} (hl : ParamsLegal s.params)
    (hmem : (f, w) ∈ cycleWords s) (hw : f = .frame → w < 2 ^ 24) :
    ∃ i, decode f w = .ok i ∧ step s = finish (exec i s) := by
  cases f with
  | host =>
    obtain ⟨hr, rfl⟩ := mem_cycleWords_host.mp hmem
    refine ⟨fetch s, ?_, step_eq_finish hl⟩
    rw [fetch_of_not_isReserved hr]
    exact decodeHost_eq_ok.mpr ⟨_, _, rfl, rfl⟩
  | state =>
    obtain ⟨hrow, rfl⟩ := mem_cycleWords_state.mp hmem
    refine ⟨stateRow s.state, decodeState_eq_ok.mpr ⟨_, rfl, rfl⟩, ?_⟩
    cases hr : isReserved s.state with
    | true => rw [step_eq_finish hl, fetch_of_isReserved hr]
    | false =>
      have hrst := hrow.resolve_left (by simp [hr])
      rw [step_eq_stateCycle hl hr hrst, exec_stateRow]
  | frame =>
    obtain ⟨hs, hrst, hp, rfl⟩ := mem_cycleWords_frame.mp hmem
    obtain ⟨c, b, v, hc, hv, hframe⟩ := exists_frameWord (hw rfl)
    refine ⟨frameRow c b v, hframe ▸ decode_frameWord b hc hv, ?_⟩
    rw [step_decode hl hs hrst, exec_frameRow b hp hc hv, hframe, finish]

/-! ### Placing a word -/

theorem withFetchWord_host {s : State} {nbits : Nat} (w : Nat) (h : formatOfBits nbits = some .host) :
    s.withFetchWord nbits w = withCommand (w.testBit 1) (w.testBit 0)
      { s with state := if isReserved s.state then .idle else s.state } := by
  rw [State.withFetchWord, placeWord, h]

theorem withFetchWord_state {s : State} {nbits : Nat} (w : Nat) (h : formatOfBits nbits = some .state) :
    s.withFetchWord nbits w = withCommand false false { s with state := (stateOfCode w).getD s.state } := by
  rw [State.withFetchWord, placeWord, h]

theorem withFetchWord_frame {s : State} {nbits : Nat} (w : Nat) (h : formatOfBits nbits = some .frame) :
    s.withFetchWord nbits w = withCommand false false { s with state := .decode, frame := bitSlice w 0 24 } := by
  rw [State.withFetchWord, placeWord, h]

theorem withFetchWord_params (s : State) (nbits w : Nat) : (s.withFetchWord nbits w).params = s.params := by
  rw [State.withFetchWord, placeWord]
  split <;> rfl

theorem decodeTableWord_eq_some {nbits w : Nat} {i : Instr} :
    decodeTableWord nbits w = some i ↔ ∃ f, formatOfBits nbits = some f ∧ decode f w = .ok i := by
  unfold decodeTableWord
  cases formatOfBits nbits with
  | none => simp
  | some f => cases h : decode f w <;> simp [h]

/-- The placed word is one that the cycle stands under. -/
theorem mem_cycleWords_withFetchWord {s : State} {nbits w : Nat} {f : Format} {i : Instr}
    (hp : hasDefaultLayout s.params = true) (hf : formatOfBits nbits = some f) (hd : decode f w = .ok i) :
    (f, w) ∈ cycleWords (s.withFetchWord nbits w) := by
  cases f with
  | host =>
    obtain ⟨rst, q, rfl, -⟩ := decodeHost_eq_ok.mp hd
    rw [withFetchWord_host _ hf]
    refine mem_cycleWords_host.mpr ⟨?_, ?_⟩
    · cases hr : isReserved s.state with
      | true => rfl
      | false => exact hr
    · cases rst <;> cases q <;> rfl
  | state =>
    obtain ⟨st, rfl, -⟩ := decodeState_eq_ok.mp hd
    rw [withFetchWord_state _ hf, stateOfCode_eq_some.mpr rfl]
    exact mem_cycleWords_state.mpr ⟨.inr rfl, rfl⟩
  | frame =>
    obtain ⟨c, b, v, hc, hv, rfl, -⟩ := decodeFrame_eq_ok.mp hd
    rw [withFetchWord_frame _ hf]
    exact mem_cycleWords_frame.mpr ⟨rfl, rfl, hp, (bitSlice_zero_of_lt (Laws.frameWord_lt b hc hv)).symm⟩

end Sys2Proof.Machine
end

section
/-!
The claims about frame words, codes and outputs, and the rows that a cycle stands under (30_encoding.md R82 to R90).
-/
namespace Sys2Proof.Machine

/-- Settles O4: the masks keep CHECK, CHECK with SIGN, and VALUE of the fields that a word is made of. -/
theorem everyFrameWordFallsIntoExactlyOneClass : Obligations.EveryFrameWordFallsIntoExactlyOneClass := by
  intro p w hp hw
  obtain ⟨c, b, v, hc, hv, rfl⟩ := exists_frameWord hw
  obtain ⟨hce, hcheck, hsign, -⟩ := fields_frameWord b hp hc hv
  obtain ⟨hE, hF, hV⟩ := frameWord_land_masks c b hc hv
  rw [hce, hcheck, hsign, hE, hF, hV, frameWord_sign c b hv, decode_frameWord b hc hv]
  have hpos : (c = 4 ∧ b = false) ↔ (2 * c + bitValue b) * 2 ^ 20 = 0x800000 := by
    cases b <;> simp [bitValue] <;> omega
  have hneg : (c = 4 ∧ b = true) ↔ (2 * c + bitValue b) * 2 ^ 20 = 0x900000 := by
    cases b <;> simp [bitValue] <;> omega
  have hclass (n m : Nat) (hm : m = n * 2 ^ 21) (h : c * 2 ^ 21 = m) : c = n := by omega
  refine ⟨hpos, hneg, fun n => by omega, fun h => ?_, fun h => ?_, fun h => ?_, fun h => ?_, fun h => ?_, fun h => ?_,
    fun h => ?_, fun h => ?_, fun h => ?_⟩
  · obtain ⟨rfl, rfl⟩ := hpos.mpr h
    rfl
  · obtain ⟨rfl, rfl⟩ := hneg.mpr h
    rfl
  · rw [hclass 0 _ rfl h, frameRow]
  · rw [hclass 1 _ rfl h, frameRow]
  · rw [hclass 2 _ rfl h, frameRow]
  · rw [hclass 3 _ rfl h, frameRow]
  · rw [hclass 5 _ rfl h, frameRow]
  · rw [hclass 6 _ rfl h, frameRow]
  · rw [hclass 7 _ rfl h]; rfl

/-- Settles O46: a FRAME word of a cycle has 24 bits because the layout is the default one. -/
theorem everyRowOfACycleTellsTheSameCycle : Obligations.EveryRowOfACycleTellsTheSameCycle := by
  intro s f w hl hframe hmem
  refine row_of_cycleWord hl hmem ?_
  rintro rfl
  obtain ⟨-, -, hp, rfl⟩ := mem_cycleWords_frame.mp hmem
  obtain ⟨hbits, -⟩ := of_decide_eq_true hp
  rwa [hbits] at hframe

/-- Settles O47: the cycle stands under the placed word, and each such word tells the cycle. -/
theorem aPlacedWordIsRunByTheNextStep : Obligations.APlacedWordIsRunByTheNextStep := by
  intro s nbits w i hl hp hd
  obtain ⟨f, hf, hd⟩ := decodeTableWord_eq_some.mp hd
  obtain ⟨rfl, -, -⟩ := encodingADecodedWordGivesItBack f w i hd
  have hmem := mem_cycleWords_withFetchWord hp hf hd
  refine ⟨hmem, ?_⟩
  obtain ⟨i', hd', hstep⟩ := row_of_cycleWord (by rwa [withFetchWord_params]) hmem fun hframe => by
    rw [hframe] at hd
    obtain ⟨c, b, v, hc, hv, rfl, -⟩ := decodeFrame_eq_ok.mp hd
    exact Laws.frameWord_lt b hc hv
  obtain rfl : i' = i := Except.ok.inj (hd'.symm.trans hd)
  exact hstep

/-- Settles O3: each word is run through its decoder. -/
theorem wordsWrittenFromTheSpecDecode : Obligations.WordsWrittenFromTheSpecDecode :=
  ⟨rfl, rfl, rfl, rfl, rfl, rfl, rfl, rfl⟩

/-- Settles O5: the codes as they are written, and the decoder on the code of a state. -/
theorem stateCodesAreThoseOfTheTable : Obligations.StateCodesAreThoseOfTheTable :=
  ⟨rfl, rfl, rfl, rfl, rfl, rfl, rfl, rfl, fun st => decodeState_eq_ok.mpr ⟨st, rfl, rfl⟩⟩

/-- The two outputs that show the status register (R41, R86). -/
theorem outputs_status_valid {s : State} {st : Status} (h : s.result.status = st) :
    (outputs s).status = statusCode st ∧ (outputs s).valid = decide (st = .ok) := by
  subst h
  exact ⟨rfl, rfl⟩

/-- Settles O6: both outputs are functions of the status register. -/
theorem statusAndValidOutputs : Obligations.StatusAndValidOutputs :=
  fun _ => ⟨outputs_status_valid, outputs_status_valid, outputs_status_valid, outputs_status_valid⟩

/-- Settles O19: the step of a reserved state runs its row, whatever the ports are. -/
theorem reservedStatesFault : Obligations.ReservedStatesFault := by
  refine ⟨fun s => ⟨rfl, rfl⟩, fun s hl hs => ?_⟩
  have hr : isReserved s.state = true := by rcases hs with hs | hs <;> rw [hs] <;> rfl
  rw [step_eq_finish hl, fetch_of_isReserved hr]
  rcases hs with hs | hs <;> rw [hs] <;> rfl

/-- Settles O45: the step is the fetched row, finished. -/
theorem aStepRunsTheRowOfItsWord : Obligations.AStepRunsTheRowOfItsWord := by
  intro s hl
  refine ⟨fun hr => ?_, fun hr => ?_, fun u hu => ?_, fun f hf => ?_⟩
  · rw [fetch_of_not_isReserved hr]
    exact decodeHost_eq_ok.mpr ⟨_, _, (toNat_hostCode _ _).symm, rfl⟩
  · rw [fetch_of_isReserved hr]
    exact decodeState_eq_ok.mpr ⟨_, rfl, rfl⟩
  · rw [step_eq_finish hl, hu]
    rfl
  · rw [step_eq_finish hl, hf]
    rfl

end Sys2Proof.Machine
end

section
/-!
SUPPORT. A frame on the wire (30_encoding.md R81, R93): the cycles of its clock pulses, by their number.
-/
namespace Sys2Proof.Machine

@[simp] theorem length_segLine (c d : Bool) (n : Nat) : (segLine c d n).length = n := by simp [segLine]

theorem getElem?_segLine (c d : Bool) {n k : Nat} (h : k < n) :
    (segLine c d n)[k]? = some { rst := false, readReq := false, c := c, d := d } := by
  simp [segLine, h]

/-- Cycle k of `n` clock pulses of `low` low and `high` high cycles: the pulse is told by the quotient, the clock level
by the remainder. -/
theorem getElem?_bitLines (word low high n : Nat) : ∀ i k, k < n * (low + high) →
    (bitLines word low high i n)[k]? = some
      { rst := false, readReq := false, c := decide (low ≤ k % (low + high))
        d := !word.testBit (i + k / (low + high)) } := by
  induction n with
  | zero => intro i k hk; omega
  | succ n ih =>
    intro i k hk
    rw [Nat.succ_mul] at hk
    rw [bitLines_succ, bitLinesFrom, ← List.append_assoc]
    by_cases hfirst : k < low + high
    · rw [List.getElem?_append_left (by simpa using hfirst), Nat.mod_eq_of_lt hfirst, Nat.div_eq_of_lt hfirst,
        Nat.add_zero]
      by_cases hlow : k < low
      · rw [List.getElem?_append_left (by simpa using hlow), getElem?_segLine _ _ hlow,
          decide_eq_false (Nat.not_le_of_lt hlow)]
      · rw [List.getElem?_append_right (by simpa using hlow), length_segLine, getElem?_segLine _ _ (by omega),
          decide_eq_true (Nat.le_of_not_lt hlow)]
    · obtain ⟨j, rfl⟩ := Nat.exists_eq_add_of_le (Nat.le_of_not_lt hfirst)
      have hpulse : 0 < low + high := Nat.pos_of_ne_zero fun h0 => by simp [h0] at hk
      rw [List.getElem?_append_right (by simp), List.length_append, length_segLine, length_segLine,
        Nat.add_sub_cancel_left, ih (i + 1) j (by omega), Nat.add_mod_left, Nat.add_div_left j hpulse,
        Nat.add_assoc i 1, Nat.add_comm 1]

theorem length_bitLines (word low high n : Nat) : ∀ i, (bitLines word low high i n).length = n * (low + high) := by
  induction n with
  | zero => intro i; rw [bitLines_zero, List.length_nil, Nat.zero_mul]
  | succ n ih =>
    intro i
    rw [bitLines_succ, bitLinesFrom, List.length_append, List.length_append, length_segLine, length_segLine, ih,
      Nat.succ_mul]
    omega

/-- The wire inverts every bit of the frame (R81). -/
theorem testBit_wireWord {p : Params} {f : Nat} (hf : f < 2 ^ p.frameBits) (i : Nat) :
    (wireWord p f).testBit i = (decide (i < p.frameBits) && !f.testBit i) := by
  rw [wireWord, Nat.testBit_xor, Nat.testBit_two_pow_sub_one]
  by_cases hi : i < p.frameBits
  · simp [hi]
  · have hle : 2 ^ p.frameBits ≤ 2 ^ i := Nat.pow_le_pow_right (by decide) (Nat.le_of_not_lt hi)
    simp [hi, Nat.testBit_lt_two_pow (Nat.lt_of_lt_of_le hf hle)]

/-- The pulses of the frame bits from i on carry the wire word (R93). -/
theorem getElem?_bitLines_wire {p : Params} {f low high i n k : Nat} (hf : f < 2 ^ p.frameBits)
    (hn : i + n ≤ p.frameBits) (hk : k < n * (low + high)) :
    (bitLines f low high i n)[k]? = some
      { rst := false, readReq := false, c := decide (low ≤ k % (low + high))
        d := (wireWord p f).testBit (i + k / (low + high)) } := by
  have hbit : k / (low + high) < n := Nat.div_lt_of_lt_mul (by rwa [Nat.mul_comm])
  rw [getElem?_bitLines f low high n i k hk, testBit_wireWord hf,
    decide_eq_true (show i + k / (low + high) < p.frameBits by omega), Bool.true_and]

/-- A stimulus that is being driven moves on with the run. -/
theorem Driven.runsTo {k : Nat} {x : StimulusCycle} {t : State} : ∀ {stimulus : List StimulusCycle} {s : State},
    Driven stimulus s → runsTo k s t → stimulus[k]? = some x →
    t.params = s.params ∧ ∃ rest, Driven (x :: rest) t := by
  induction k with
  | zero =>
    intro stimulus s hd hrun hx
    obtain rfl := runsTo_zero.mp hrun
    obtain ⟨rest, rfl⟩ : ∃ rest, stimulus = x :: rest := by
      cases stimulus with
      | nil => cases hx
      | cons y rest => exact ⟨rest, by simpa using hx⟩
    exact ⟨rfl, rest, hd⟩
  | succ k ih =>
    intro stimulus s hd hrun hx
    obtain ⟨u, hstep, hrun⟩ := runsTo_succ.mp hrun
    cases stimulus with
    | nil => cases hx
    | cons y rest =>
      obtain ⟨hp, hdriven⟩ := ih (hd.step hstep) hrun hx
      exact ⟨hp.trans (step_params hstep), hdriven⟩

end Sys2Proof.Machine
end

section
/-!
The claims about the wire and the stimulus (30_encoding.md R81, R92, R93).
-/
namespace Sys2Proof.Machine

/-- Settles O7: FRAME is the pulses of all bits, FRAME1 those from bit 1 on. -/
theorem theWireCarriesEveryBitInverted : Obligations.TheWireCarriesEveryBitInverted := by
  refine ⟨fun p f low high hf _ _ => ⟨testBit_wireWord hf, ?_, fun k hk => ?_, ?_, fun k hk => ?_⟩, fun p hp => ?_⟩
  · rw [frameLine_eq_bitLines, length_bitLines]
  · rw [frameLine_eq_bitLines, getElem?_bitLines_wire hf (by omega) hk, Nat.zero_add]
  · rw [frame1Line_eq_bitLines, length_bitLines]
  · have hbits : 1 + (p.frameBits - 1) ≤ p.frameBits := by
      have : p.frameBits - 1 ≠ 0 := fun h0 => by simp [h0] at hk
      omega
    rw [frame1Line_eq_bitLines, getElem?_bitLines_wire hf hbits hk, Nat.add_comm 1]
  · rw [wireWord, hp]
    rfl

/-- Settles O9: after k cycles the stimulus is driven on from its k-th entry. -/
theorem aStimulusIsSeenAsItIsWritten : Obligations.AStimulusIsSeenAsItIsWritten := by
  intro stimulus s t k x hl hx hrun
  obtain ⟨hp, rest, hd⟩ := (driven_driveStimulus stimulus s).runsTo hrun hx
  have hl' : ParamsLegal t.params := by rw [hp]; exact hl
  exact ⟨hd.clockLevel hl', hd.dataLevel hl', hd.rst, hd.readReq⟩

end Sys2Proof.Machine
end

section
/-!
SUPPORT. The EdgeMonitor's two queries and the shift that feeds them (40_edge_monitor.md R110 to R112), stage by stage.
-/
namespace Sys2Proof.Machine

theorem getElem?_eq_some_getD {x : List Bool} {i : Nat} (h : i < x.length) (d : Bool) : x[i]? = some (x.getD i d) := by
  rw [List.getD_eq_getElem?_getD, List.getElem?_eq_getElem h, Option.getD_some]

/-- What the last clock stage holds is c (R110). -/
theorem clockLevel_eq_of_lastStage {s : State} {b : Bool} (h : s.clkSync[s.params.syncStages - 1]? = some b) :
    clockLevel s = b := by
  rw [clockLevel, List.getD_eq_getElem?_getD, h, Option.getD_some]

/-- What the last data stage holds is d (R111). -/
theorem dataLevel_eq_of_lastStage {s : State} {b : Bool} (h : s.dataSync[s.params.syncStages - 1]? = some b) :
    dataLevel s = b := by
  rw [dataLevel, List.getD_eq_getElem?_getD, h, Option.getD_some]

/-- A machine that steps has at least one synchronizer stage (60_exceptions.md R233). -/
theorem syncStages_pos_of_step {s t : State} (h : step s = .next t) : 0 < s.params.syncStages := by
  obtain ⟨hl, -⟩ := step_cases h
  obtain ⟨-, -, -, -, -, -, -, -, hstages⟩ := paramsLegal_facts hl
  exact hstages

/-- Stage 0 of both synchronizers takes its pin in every step (R112). -/
theorem step_firstStage {s t : State} (h : step s = .next t) :
    t.clkSync[0]? = some (clkPin s) ∧ t.dataSync[0]? = some (dataPin s) := by
  obtain ⟨-, hc, hd, -⟩ := step_wires h
  have hpos := syncStages_pos_of_step h
  exact ⟨by rw [hc, shiftStages_zero _ _ hpos], by rw [hd, shiftStages_zero _ _ hpos]⟩

/-- Every other stage takes the one before it in every step (R112). -/
theorem step_laterStage {s t : State} (h : step s = .next t) {j : Nat} (hj : j + 1 < s.params.syncStages) :
    t.clkSync[j + 1]? = s.clkSync[j]? ∧ t.dataSync[j + 1]? = s.dataSync[j]? := by
  obtain ⟨-, hc, hd, -⟩ := step_wires h
  exact ⟨by rw [hc, shiftStages_succ _ _ hj], by rw [hd, shiftStages_succ _ _ hj]⟩

/-- The pins sampled in s stand in stage j after j + 1 cycles. -/
theorem pins_reach_stage {s : State} (j : Nat) : ∀ {t : State}, j < s.params.syncStages → runsTo (j + 1) s t →
    t.params = s.params ∧ t.clkSync[j]? = some (clkPin s) ∧ t.dataSync[j]? = some (dataPin s) := by
  induction j with
  | zero =>
    intro t _ hrun
    have hstep := runsTo_one.mp hrun
    exact ⟨step_params hstep, step_firstStage hstep⟩
  | succ j ih =>
    intro t hj hrun
    obtain ⟨u, hrun, hstep⟩ := runsTo_snoc.mp hrun
    obtain ⟨hp, hc, hd⟩ := ih (Nat.lt_of_succ_lt hj) hrun
    obtain ⟨hclk, hdata⟩ := step_laterStage hstep (hp.symm ▸ hj)
    exact ⟨(step_params hstep).trans hp, hclk.trans hc, hdata.trans hd⟩

end Sys2Proof.Machine
end

section
/-!
The EdgeMonitor's claims (40_edge_monitor.md R110 to R112).
-/
namespace Sys2Proof.Machine

/-- Settles O12: one shift per step, and the pins of s stand in the last stage after NS of them. -/
theorem linesAreSeenNSCyclesLate : Obligations.LinesAreSeenNSCyclesLate := by
  refine ⟨fun s t hstep _ _ => ?_, fun s t hl hrun => ?_⟩
  · obtain ⟨hclk, hdata⟩ := step_firstStage hstep
    exact ⟨hclk, hdata, fun _ hj => step_laterStage hstep hj⟩
  · obtain ⟨-, -, -, -, -, -, -, -, hstages⟩ := paramsLegal_facts hl
    obtain ⟨hp, hc, hd⟩ := pins_reach_stage (s.params.syncStages - 1) (Nat.sub_one_lt_of_lt hstages)
      (by rwa [Nat.sub_add_cancel hstages])
    exact ⟨clockLevel_eq_of_lastStage (by rw [hp, hc]), dataLevel_eq_of_lastStage (by rw [hp, hd])⟩

/-- Settles O10: the last stage exists, so the query's default is never read. -/
theorem queriesReadTheLastStage : Obligations.QueriesReadTheLastStage :=
  fun _ hpos hclk hdata =>
    ⟨getElem?_eq_some_getD (by omega) false, getElem?_eq_some_getD (by omega) false⟩

end Sys2Proof.Machine
end

section
/-!
SUPPORT. The FrameSynchronizer's two state rules, branch by branch (41_frame_synchronizer.md R130 to R136), and the
cycles that they make where the timeout does not fire.
-/
namespace Sys2Proof.Machine

variable {s : State}

theorem syncWaitHighRule_of_high (hc : clockLevel s = true) : syncWaitHighRule s = startMeasure s := if_pos hc

theorem syncWaitHighRule_of_low (hc : clockLevel s = false) : syncWaitHighRule s = s := by
  simp [syncWaitHighRule, hc]

theorem syncMeasureRule_of_high (hc : clockLevel s = true) : syncMeasureRule s = countHigh s := if_pos hc

theorem syncMeasureRule_of_gap (hc : clockLevel s = false) (hg : gapThreshold s.params < s.gapCount) :
    syncMeasureRule s = declareSync s := by
  simp [syncMeasureRule, hc, hg]

theorem syncMeasureRule_of_short (hc : clockLevel s = false) (hg : s.gapCount ≤ gapThreshold s.params) :
    syncMeasureRule s = rejectInterval s := by
  simp [syncMeasureRule, hc, Nat.not_lt_of_le hg]

/-- Declared sync with SB = 0 takes no bit (R133). -/
theorem declareSync_of_syncBits_zero (h : s.params.syncBits = 0) :
    declareSync s = { s with gapCount := 0, state := .bitWaitLowEnd } := by
  simp [declareSync, h]

/-- Declared sync with SB = 1 takes f[0] (R136). -/
theorem declareSync_of_syncBits_one (h : s.params.syncBits = 1) :
    declareSync s =
      { s with
        frame := writeBit s.frame 0 (!dataLevel s), bitIndex := 1, gapCount := 0, state := .bitWaitLowEnd } := by
  simp [declareSync, h]

theorem activeRule_of_syncWaitHigh (hs : s.state = .syncWaitHigh) : activeRule s = syncWaitHighRule s := by
  simp [activeRule, hs]

theorem activeRule_of_syncMeasure (hs : s.state = .syncMeasure) : activeRule s = syncMeasureRule s := by
  simp [activeRule, hs]

/-- An active cycle that the timeout does not end counts itself and applies its rule (R232). -/
theorem activeCycle_of_noTimeout (rule : State → State)
    (h : ¬ (0 < s.params.stallTimeout ∧ s.timeoutCount + 1 = s.params.stallTimeout)) :
    activeCycle rule s = rule (countActive (clearDone s)) := by
  simp [activeCycle, (timeoutFires_eq_false_iff s).mpr h]

theorem exec_syncWaitHigh_of_noTimeout
    (h : ¬ (0 < s.params.stallTimeout ∧ s.timeoutCount + 1 = s.params.stallTimeout)) :
    exec .syncWaitHigh s = .next (syncWaitHighRule (countActive (clearDone s))) :=
  congrArg Host.Outcome.next (activeCycle_of_noTimeout syncWaitHighRule h)

theorem exec_syncMeasure_of_noTimeout
    (h : ¬ (0 < s.params.stallTimeout ∧ s.timeoutCount + 1 = s.params.stallTimeout)) :
    exec .syncMeasure s = .next (syncMeasureRule (countActive (clearDone s))) :=
  congrArg Host.Outcome.next (activeCycle_of_noTimeout syncMeasureRule h)

end Sys2Proof.Machine
end

section
/-!
SUPPORT. Runs of high cycles: the count that SYNC_MEASURE makes of one (41_frame_synchronizer.md R132, R139), and the
high cycles that stand behind a count (R137).
-/
namespace Sys2Proof.Machine

/-! ### From a high run to its count -/

/-- An active cycle where the timeout fires neither in it nor in the `left` cycles after it. -/
theorem step_activeRule_of_noTimeoutWithin {left : Nat} {s : State} (hl : ParamsLegal s.params)
    (ha : isActive s.state = true) (hr : (pinsNow s).rst = false) (hto : NoTimeoutWithin (left + 1) s) :
    step s = .next (endCycle (activeRule (countActive (clearDone s)))) ∧
    NoTimeoutWithin left (endCycle (activeRule (countActive (clearDone s)))) := by
  have hstep := step_activeRule hl ha hr (timeoutFires_of_noTimeoutWithin hto)
  exact ⟨hstep, noTimeoutWithin_countActive hto (step_params hstep)
    (activeRule_timeoutCount (s := countActive (clearDone s)) ha)⟩

/-- n cycles after s the measurement stands in t with a count of n, saturated at GT + 1 (R139), and `left` cycles
before a timeout. -/
structure Measured (n left : Nat) (s t : State) : Prop where
  run : runsTo n s t
  params : t.params = s.params
  state : t.state = .syncMeasure
  count : t.gapCount = min n (gapThreshold s.params + 1)
  noTimeout : NoTimeoutWithin left t

/-- The first high cycle (R130). -/
theorem measured_first {left : Nat} {s : State} (hl : ParamsLegal s.params) (hs : s.state = .syncWaitHigh)
    (hto : NoTimeoutWithin (left + 1) s) (hc : clockLevel s = true) (hr : (pinsNow s).rst = false) :
    ∃ t, Measured 1 left s t := by
  obtain ⟨hstep, hto'⟩ := step_activeRule_of_noTimeoutWithin hl (by rw [hs]; rfl) hr hto
  rw [activeRule_of_syncWaitHigh (s := countActive (clearDone s)) hs,
    syncWaitHighRule_of_high (s := countActive (clearDone s)) hc] at hstep hto'
  exact ⟨_, runsTo_one.mpr hstep, step_params hstep, rfl, (Nat.min_eq_left (Nat.le_add_left 1 _)).symm, hto'⟩

/-- One more high cycle (R131). -/
theorem Measured.next {n left : Nat} {s t : State} (h : Measured n (left + 1) s t) (hl : ParamsLegal s.params)
    (hc : clockLevel t = true) (hr : (pinsNow t).rst = false) : ∃ u, Measured (n + 1) left s u := by
  obtain ⟨hrun, hp, hs, hcount, hto⟩ := h
  obtain ⟨hstep, hto'⟩ := step_activeRule_of_noTimeoutWithin (hp ▸ hl) (by rw [hs]; rfl) hr hto
  rw [activeRule_of_syncMeasure (s := countActive (clearDone t)) hs,
    syncMeasureRule_of_high (s := countActive (clearDone t)) hc] at hstep hto'
  refine ⟨_, runsTo_snoc.mpr ⟨t, hrun, hstep⟩, (step_params hstep).trans hp, hs, ?_, hto'⟩
  simp only [endCycle_gapCount, countHigh_gapCount, countActive_gapCount, clearDone_gapCount, countActive_params,
    clearDone_params, hcount, hp]
  omega

/-- A run of n + 1 high cycles from SYNC_WAIT_HIGH is measured. -/
theorem measured_of_highRun {s : State} (hl : ParamsLegal s.params) (hs : s.state = .syncWaitHigh) (n : Nat) :
    ∀ {left : Nat}, NoTimeoutWithin (left + (n + 1)) s →
    (∀ k < n + 1, ∀ u, runsTo k s u → clockLevel u = true ∧ (pinsNow u).rst = false) →
    ∃ t, Measured (n + 1) left s t := by
  induction n with
  | zero =>
    intro left hto hhigh
    obtain ⟨hc, hr⟩ := hhigh 0 Nat.one_pos s (runsTo_zero.mpr rfl)
    exact measured_first hl hs hto hc hr
  | succ n ih =>
    intro left hto hhigh
    have hto' : NoTimeoutWithin (left + 1 + (n + 1)) s := by rwa [Nat.add_right_comm]
    obtain ⟨t, ht⟩ := ih hto' fun k hk => hhigh k (Nat.lt_succ_of_lt hk)
    obtain ⟨hc, hr⟩ := hhigh (n + 1) (Nat.lt_succ_self _) t ht.run
    exact ht.next hl hc hr

/-- The low cycle after n high ones: the saturated count exceeds GT exactly when n does (R132, R140). -/
theorem Measured.falls {n left : Nat} {s t : State} (h : Measured n (left + 1) s t) (hl : ParamsLegal s.params)
    (hc : clockLevel t = false) (hr : (pinsNow t).rst = false) :
    ∃ v, step t = .next v ∧
      (gapThreshold s.params < n → v.state = .bitWaitLowEnd) ∧
      (n ≤ gapThreshold s.params → v.state = .syncWaitHigh) ∧ v.gapCount = 0 := by
  obtain ⟨-, hp, hs, hcount, hto⟩ := h
  obtain ⟨hstep, -⟩ := step_activeRule_of_noTimeoutWithin (hp ▸ hl) (by rw [hs]; rfl) hr hto
  rw [activeRule_of_syncMeasure (s := countActive (clearDone t)) hs] at hstep
  refine ⟨_, hstep, ?_⟩
  rcases Nat.lt_or_ge (gapThreshold s.params) n with hgap | hshort
  · have hg : gapThreshold t.params < t.gapCount := by rw [hp, hcount]; omega
    rw [syncMeasureRule_of_gap (s := countActive (clearDone t)) hc hg]
    exact ⟨fun _ => rfl, fun hle => absurd hgap (Nat.not_lt_of_le hle), rfl⟩
  · have hg : t.gapCount ≤ gapThreshold t.params := by rw [hp, hcount]; omega
    rw [syncMeasureRule_of_short (s := countActive (clearDone t)) hc hg]
    exact ⟨fun hlt => absurd hlt (Nat.not_lt_of_le hshort), fun _ => rfl, rfl⟩

/-! ### From a count to the high run behind it -/

/-- A step into SYNC_MEASURE is a high cycle: the first of an interval, or one more (R130, R131). -/
theorem step_into_syncMeasure {s t : State} (h : step s = .next t) (ht : t.state = .syncMeasure) :
    clockLevel s = true ∧ (t.gapCount = 1 ∨ s.state = .syncMeasure ∧ t.gapCount ≤ s.gapCount + 1) := by
  obtain ⟨u, rfl, hu⟩ := step_events h
  rw [endCycle_state] at ht
  rcases hu with ⟨-, rfl⟩ | ⟨-, hs, rfl⟩ | ⟨-, -, -, rfl⟩ | ⟨-, ha, -, rfl⟩ | ⟨-, -, rfl⟩
  · cases ht
  · cases hq : (pinsNow s).readReq <;> simp [hq, idleCycle, idleRule, hs] at ht
  · cases ht
  · rcases activeRule_operations (s := countActive (clearDone s)) ha with ⟨hrule, -, hne⟩ | ⟨hrule, -, hc⟩ |
      ⟨hrule, hs, hc⟩ | ⟨hrule, -⟩ | ⟨hrule, -⟩ | ⟨hrule, -⟩ | ⟨hrule, -⟩ <;> rw [hrule] at ht ⊢
    · exact absurd ht hne
    · exact ⟨hc, .inl rfl⟩
    · exact ⟨hc, .inr ⟨hs, Nat.min_le_left _ _⟩⟩
    · cases ht
    · cases ht
    · cases ht
    · rw [samplePoint_state] at ht
      rcases stateAfterSample_cases (countActive (clearDone s)).params.frameBits
        (countActive (clearDone s)).bitIndex with ⟨-, hst⟩ | ⟨-, hst⟩ <;> rw [hst] at ht <;> cases ht
  · cases ht

/-- Each of the last `count` of the n cycles from s on saw a high clock. -/
def HighRunBehind (n count : Nat) (s : State) : Prop :=
  count ≤ n ∧ ∀ j, 1 ≤ j → j ≤ count → ∃ u, runsTo (n - j) s u ∧ clockLevel u = true

theorem highRunBehind_zero (n : Nat) (s : State) : HighRunBehind n 0 s :=
  ⟨Nat.zero_le n, fun _ h1 h0 => absurd (Nat.le_trans h1 h0) (Nat.not_succ_le_zero 0)⟩

theorem HighRunBehind.mono {n count count' : Nat} {s : State} (h : HighRunBehind n count s) (hle : count' ≤ count) :
    HighRunBehind n count' s := by
  obtain ⟨hn, hhigh⟩ := h
  exact ⟨Nat.le_trans hle hn, fun j h1 hj => hhigh j h1 (Nat.le_trans hj hle)⟩

/-- One more high cycle lengthens the run: it is the last of them, and every other is one further back. -/
theorem HighRunBehind.succ {n count : Nat} {s u : State} (h : HighRunBehind n count s) (hrun : runsTo n s u)
    (hc : clockLevel u = true) : HighRunBehind (n + 1) (count + 1) s := by
  obtain ⟨hn, hhigh⟩ := h
  refine ⟨Nat.succ_le_succ hn, fun j h1 hj => ?_⟩
  obtain ⟨j, rfl⟩ := Nat.exists_eq_add_of_le' h1
  rw [Nat.add_sub_add_right]
  rcases Nat.eq_zero_or_pos j with rfl | hpos
  · exact ⟨u, hrun, hc⟩
  · exact hhigh j hpos (Nat.le_of_succ_le_succ hj)

/-- Behind the count of a measurement that a run from IDLE is in, there are that many high cycles. -/
theorem highRunBehind_gapCount {s : State} (hs : s.state = .idle) (n : Nat) : ∀ {t : State}, runsTo n s t →
    t.state = .syncMeasure → HighRunBehind n t.gapCount s := by
  induction n with
  | zero =>
    intro t hrun ht
    obtain rfl := runsTo_zero.mp hrun
    cases hs.symm.trans ht
  | succ n ih =>
    intro t hrun ht
    obtain ⟨u, hrun, hstep⟩ := runsTo_snoc.mp hrun
    obtain ⟨hc, hfirst | ⟨hu, hmore⟩⟩ := step_into_syncMeasure hstep ht
    · exact ((highRunBehind_zero n s).succ hrun hc).mono (Nat.le_of_eq hfirst)
    · exact ((ih hrun hu).succ hrun hc).mono hmore

end Sys2Proof.Machine
end

section
/-!
The FrameSynchronizer's claims (41_frame_synchronizer.md R130 to R140).
-/
namespace Sys2Proof.Machine

/-- Settles O24, by induction on the high cycles. -/
theorem aHighRunIsAStartGapExactlyWhenItExceedsTheThreshold :
    Obligations.AHighRunIsAStartGapExactlyWhenItExceedsTheThreshold := by
  intro s n hl hto hs hn hhigh
  obtain ⟨n, rfl⟩ := Nat.exists_eq_add_of_le' hn
  obtain ⟨t, ht⟩ := measured_of_highRun (left := 1) hl hs n (by rwa [Nat.add_comm]) hhigh
  exact ⟨t, ht.run, ht.state, ht.count, ht.falls hl⟩

/-- Settles O25, by induction on the cycles since IDLE. -/
theorem aCountNeverExceedsTheHighRunBehindIt : Obligations.ACountNeverExceedsTheHighRunBehindIt :=
  fun _ _ n hs hrun ht => highRunBehind_gapCount hs n hrun ht

/-- Settles O20: one branch of the rule for each level of the clock. -/
theorem syncWaitHighStartsAMeasurementOnAHighClock :
    Obligations.SyncWaitHighStartsAMeasurementOnAHighClock := by
  intro s hto
  rw [exec_syncWaitHigh_of_noTimeout hto]
  refine ⟨fun hc => ?_, fun hc => ?_⟩
  · rw [syncWaitHighRule_of_high (s := countActive (clearDone s)) hc]
    rfl
  · rw [syncWaitHighRule_of_low (s := countActive (clearDone s)) hc]
    rfl

/-- Settles O21: the branch of a high clock, and that of a low clock at a count of at most GT. -/
theorem syncMeasureCountsAndRejectsShortIntervals : Obligations.SyncMeasureCountsAndRejectsShortIntervals := by
  intro s hto
  rw [exec_syncMeasure_of_noTimeout hto]
  refine ⟨fun hc => ?_, fun hc hg => ?_⟩
  · rw [syncMeasureRule_of_high (s := countActive (clearDone s)) hc]
    rfl
  · rw [syncMeasureRule_of_short (s := countActive (clearDone s)) hc hg]
    rfl

/-- Settles O22: the branch of a low clock at a count above GT, without a bit. -/
theorem syncDeclaredWithoutABit : Obligations.SyncDeclaredWithoutABit := by
  intro s hto hsb hc hg
  rw [exec_syncMeasure_of_noTimeout hto, syncMeasureRule_of_gap (s := countActive (clearDone s)) hc hg,
    declareSync_of_syncBits_zero (s := countActive (clearDone s)) hsb]
  rfl

/-- Settles O23: the same branch, with f[0] written. -/
theorem syncDeclaredWithTheFirstBit : Obligations.SyncDeclaredWithTheFirstBit := by
  intro s hto hsb hc hg
  refine ⟨writeBit s.frame 0 (!dataLevel s), ?_, fun j => testBit_writeBit s.frame 0 j _⟩
  rw [exec_syncMeasure_of_noTimeout hto, syncMeasureRule_of_gap (s := countActive (clearDone s)) hc hg,
    declareSync_of_syncBits_one (s := countActive (clearDone s)) hsb]
  rfl

end Sys2Proof.Machine
end

section
/-!
SUPPORT. The BitSampler's two state rules, branch by branch (42_bit_sampler.md R150 to R153), and the cycles that they
make where the timeout does not fire.
-/
namespace Sys2Proof.Machine

variable {s : State}

theorem bitWaitHighEndRule_of_high (hc : clockLevel s = true) : bitWaitHighEndRule s = s := if_pos hc

theorem bitWaitHighEndRule_of_low (hc : clockLevel s = false) : bitWaitHighEndRule s = endPulse s := by
  simp [bitWaitHighEndRule, hc]

theorem bitWaitLowEndRule_of_high (hc : clockLevel s = true) : bitWaitLowEndRule s = samplePoint s := if_pos hc

theorem bitWaitLowEndRule_of_low (hc : clockLevel s = false) : bitWaitLowEndRule s = s := by
  simp [bitWaitLowEndRule, hc]

theorem activeRule_of_bitWaitHighEnd (hs : s.state = .bitWaitHighEnd) : activeRule s = bitWaitHighEndRule s := by
  simp [activeRule, hs]

theorem activeRule_of_bitWaitLowEnd (hs : s.state = .bitWaitLowEnd) : activeRule s = bitWaitLowEndRule s := by
  simp [activeRule, hs]

theorem exec_bitWaitHighEnd_of_noTimeout
    (h : ¬ (0 < s.params.stallTimeout ∧ s.timeoutCount + 1 = s.params.stallTimeout)) :
    exec .bitWaitHighEnd s = .next (bitWaitHighEndRule (countActive (clearDone s))) :=
  congrArg Host.Outcome.next (activeCycle_of_noTimeout bitWaitHighEndRule h)

theorem exec_bitWaitLowEnd_of_noTimeout
    (h : ¬ (0 < s.params.stallTimeout ∧ s.timeoutCount + 1 = s.params.stallTimeout)) :
    exec .bitWaitLowEnd s = .next (bitWaitLowEndRule (countActive (clearDone s))) :=
  congrArg Host.Outcome.next (activeCycle_of_noTimeout bitWaitLowEndRule h)

end Sys2Proof.Machine
end

section
/-!
SUPPORT. Replacing what the data synchronizer holds: a cycle that does not read the data line does the same as before
and carries the replacement along (42_bit_sampler.md R156).
-/
namespace Sys2Proof.Machine

/-- The state with other levels in the data synchronizer. -/
def withDataSync (other : List Bool) (s : State) : State := { s with dataSync := other }

/-- The rule of this cycle reads the data line: at a sample point (R152), or where the synchronizer takes f[0]
(41_frame_synchronizer.md R136). -/
def ReadsDataLine (s : State) : Prop :=
  (s.state = .bitWaitLowEnd ∧ clockLevel s = true) ∨
  (s.state = .syncMeasure ∧ clockLevel s = false ∧ gapThreshold s.params < s.gapCount ∧ s.params.syncBits = 1)

variable {other : List Bool} {s t : State}

/-- A cycle of IDLE, with a request and without (R200). -/
theorem step_idle (hl : ParamsLegal s.params) (hs : s.state = .idle) (hr : (pinsNow s).rst = false) :
    step s = .next (endCycle (idleCycle (pinsNow s).readReq s)) := by
  rw [step_eq_stateCycle hl (by simp [hs, isReserved]) hr]
  simp [stateCycle, hs, finish]

theorem idleCycle_withDataSync (request : Bool) :
    idleCycle request (withDataSync other s) = withDataSync other (idleCycle request s) := by
  cases request <;> rfl

theorem syncWaitHighRule_withDataSync :
    syncWaitHighRule (withDataSync other s) = withDataSync other (syncWaitHighRule s) := by
  rcases syncWaitHighRule_cases s with ⟨hc, hrule⟩ | ⟨hc, hrule⟩ <;> rw [hrule]
  · exact syncWaitHighRule_of_high (s := withDataSync other s) hc
  · exact syncWaitHighRule_of_low (s := withDataSync other s) hc

theorem bitWaitHighEndRule_withDataSync :
    bitWaitHighEndRule (withDataSync other s) = withDataSync other (bitWaitHighEndRule s) := by
  rcases bitWaitHighEndRule_cases s with ⟨hc, hrule⟩ | ⟨hc, hrule⟩ <;> rw [hrule]
  · exact bitWaitHighEndRule_of_high (s := withDataSync other s) hc
  · exact bitWaitHighEndRule_of_low (s := withDataSync other s) hc

theorem declareSync_withDataSync (h : s.params.syncBits ≠ 1) :
    declareSync (withDataSync other s) = withDataSync other (declareSync s) := by
  simp [declareSync, withDataSync, syncFrame, h]

/-- SYNC_MEASURE reads the data line nowhere but where sync takes f[0]. -/
theorem syncMeasureRule_withDataSync
    (h : ¬ (clockLevel s = false ∧ gapThreshold s.params < s.gapCount ∧ s.params.syncBits = 1)) :
    syncMeasureRule (withDataSync other s) = withDataSync other (syncMeasureRule s) := by
  rcases syncMeasureRule_cases s with ⟨hc, hrule⟩ | ⟨hc, hg, hrule⟩ | ⟨hc, hg, hrule⟩ <;> rw [hrule]
  · exact syncMeasureRule_of_high (s := withDataSync other s) hc
  · rw [← declareSync_withDataSync fun hsb => h ⟨hc, hg, hsb⟩]
    exact syncMeasureRule_of_gap (s := withDataSync other s) hc hg
  · exact syncMeasureRule_of_short (s := withDataSync other s) hc hg

/-- The rule of an active state that does not read the data line. -/
theorem activeRule_withDataSync (ha : isActive s.state = true) (h : ¬ ReadsDataLine s) :
    activeRule (withDataSync other s) = withDataSync other (activeRule s) := by
  obtain ⟨hsample, hsync⟩ := not_or.mp h
  rcases activeRule_cases ha with ⟨hs, hrule⟩ | ⟨hs, hrule⟩ | ⟨hs, hrule⟩ | ⟨hs, hrule⟩ <;> rw [hrule]
  · rw [activeRule_of_syncWaitHigh (s := withDataSync other s) hs, syncWaitHighRule_withDataSync]
  · rw [activeRule_of_syncMeasure (s := withDataSync other s) hs,
      syncMeasureRule_withDataSync fun hread => hsync ⟨hs, hread⟩]
  · rw [activeRule_of_bitWaitHighEnd (s := withDataSync other s) hs, bitWaitHighEndRule_withDataSync]
  · have hc : clockLevel s = false := Bool.eq_false_iff.mpr fun hc => hsample ⟨hs, hc⟩
    rw [activeRule_of_bitWaitLowEnd (s := withDataSync other s) hs, bitWaitLowEndRule_of_low hc,
      bitWaitLowEndRule_of_low (s := withDataSync other s) hc]

/-- Before its end, a cycle that does not read the data line carries the replacement along. -/
theorem step_withDataSync (hstep : step s = .next t) (h : ¬ ReadsDataLine s) (other : List Bool) :
    ∃ u, t = endCycle u ∧ step (withDataSync other s) = .next (endCycle (withDataSync other u)) := by
  obtain ⟨hl, hreserved, -⟩ := step_cases hstep
  obtain ⟨u, rfl, hu⟩ := step_events hstep
  refine ⟨u, rfl, ?_⟩
  rcases hu with ⟨hr, rfl⟩ | ⟨hr, hs, rfl⟩ | ⟨hr, ha, hf, rfl⟩ | ⟨hr, ha, hf, rfl⟩ | ⟨hr, hs, rfl⟩
  · exact step_eq_reset (s := withDataSync other s) hl hreserved hr
  · rw [← idleCycle_withDataSync]
    exact step_idle (s := withDataSync other s) hl hs hr
  · exact step_stall (s := withDataSync other s) hl ha hr hf
  · rw [← activeRule_withDataSync (s := countActive (clearDone s)) ha h]
    exact step_activeRule (s := withDataSync other s) hl ha hr hf
  · exact step_decode (s := withDataSync other s) hl hs hr

end Sys2Proof.Machine
end

section
/-!
SUPPORT. A run of the BitSampler on any clock and data levels: the rising cycles are its sample points
(42_bit_sampler.md R155), by one lemma for a rising cycle and one for every other.
-/
namespace Sys2Proof.Machine

/-! ### Rising cycles -/

/-- The cycle before cycle n was high; before cycle 0 the clock was low (R155). -/
def highBefore (c : Nat → Bool) : Nat → Bool
  | 0 => false
  | n + 1 => c n

/-- A rising cycle is a high one after a low one. -/
theorem isRising_eq (c : Nat → Bool) (n : Nat) : isRising c n = (c n && !highBefore c n) := by
  cases n <;> simp [isRising, highBefore]

theorem highBefore_iff (c : Nat → Bool) (n : Nat) : highBefore c n = true ↔ 0 < n ∧ c (n - 1) = true := by
  cases n <;> simp [highBefore]

theorem risingCycles_succ_of_rising {c : Nat → Bool} {n : Nat} (h : isRising c n = true) :
    risingCycles c (n + 1) = risingCycles c n ++ [n] := by
  rw [risingCycles_succ, if_pos h]

/-- The rising cycles up to a rising cycle are those before it, and it. -/
theorem getElem?_risingCycles_succ {c : Nat → Bool} {n i u : Nat} (h : isRising c n = true)
    (hi : (risingCycles c (n + 1))[i]? = some u) :
    (i < (risingCycles c n).length ∧ (risingCycles c n)[i]? = some u) ∨ (i = (risingCycles c n).length ∧ u = n) := by
  rw [risingCycles_succ_of_rising h, List.getElem?_append] at hi
  split at hi
  next hlt => exact .inl ⟨hlt, hi⟩
  next hge =>
    obtain ⟨hzero, rfl⟩ : i - (risingCycles c n).length = 0 ∧ n = u := by
      simpa [List.getElem?_singleton] using hi
    exact .inr ⟨by omega, rfl⟩

theorem risingCycles_succ_of_not_rising {c : Nat → Bool} {n : Nat} (h : isRising c n = false) :
    risingCycles c (n + 1) = risingCycles c n := by
  simp [risingCycles_succ, h]

theorem length_risingCycles_mono (c : Nat → Bool) {m n : Nat} (h : m ≤ n) :
    (risingCycles c m).length ≤ (risingCycles c n).length :=
  ((List.range_sublist.mpr h).filter (isRising c)).length_le

/-! ### One cycle -/

/-- Where the BitSampler waits for its next bit, after a high cycle and after a low one. -/
def waitState (high : Bool) : FsmState := if high then .bitWaitHighEnd else .bitWaitLowEnd

/-- Where the BitSampler stands: in DECODE when the frame is full. -/
def samplerState (frameBits bitIndex : Nat) (high : Bool) : FsmState :=
  if bitIndex = frameBits then .decode else waitState high

theorem isActive_waitState (high : Bool) : isActive (waitState high) = true := by cases high <;> rfl

theorem samplerState_of_lt {frameBits bitIndex : Nat} (high : Bool) (h : bitIndex < frameBits) :
    samplerState frameBits bitIndex high = waitState high := if_neg (Nat.ne_of_lt h)

/-- A sample point is left after a high cycle (R152). -/
theorem stateAfterSample_eq (frameBits bitIndex : Nat) :
    stateAfterSample frameBits bitIndex = samplerState frameBits (bitIndex + 1) true := rfl

/-- A high cycle after a low one is a sample point (R151). -/
theorem activeRule_of_rising {s : State} (hs : s.state = waitState false) (hc : clockLevel s = true) :
    activeRule s = samplePoint s := by
  rw [activeRule_of_bitWaitLowEnd hs, bitWaitLowEndRule_of_high hc]

/-- Every other cycle moves at most between the two waits (R150, R151). -/
theorem activeRule_of_not_rising {s : State} {high : Bool} (hs : s.state = waitState high)
    (h : (clockLevel s && !high) = false) : activeRule s = { s with state := waitState (clockLevel s) } := by
  cases high with
  | false =>
    have hc : clockLevel s = false := by simpa using h
    rw [activeRule_of_bitWaitLowEnd hs, bitWaitLowEndRule_of_low hc, hc, ← hs]
  | true =>
    rw [activeRule_of_bitWaitHighEnd hs]
    cases hc : clockLevel s with
    | false => exact bitWaitHighEndRule_of_low hc
    | true => rw [bitWaitHighEndRule_of_high hc, ← hs]

/-! ### A run -/

/-- n cycles after s the BitSampler stands in t: the rising cycles have each written one bit, in order and from
s.bitIndex on, no other cycle has, and `left` cycles are left before a timeout. -/
structure Sampled (c d : Nat → Bool) (n left : Nat) (s t : State) : Prop where
  run : runsTo n s t
  params : t.params = s.params
  index : t.bitIndex = s.bitIndex + (risingCycles c n).length
  written : ∀ i u, (risingCycles c n)[i]? = some u → t.frame.testBit (s.bitIndex + i) = !d u
  kept : ∀ j, j < s.bitIndex ∨ t.bitIndex ≤ j → t.frame.testBit j = s.frame.testBit j
  state : t.state = samplerState s.params.frameBits t.bitIndex (highBefore c n)
  noTimeout : NoTimeoutWithin left t

namespace Sampled

variable {c d : Nat → Bool} {n left : Nat} {s t : State}

/-- Before its first cycle. -/
theorem start (hs : s.state = .bitWaitLowEnd) (hroom : s.bitIndex < s.params.frameBits)
    (hto : NoTimeoutWithin left s) : Sampled c d 0 left s s where
  run := runsTo_zero.mpr rfl
  params := rfl
  index := rfl
  written := nofun
  kept _ _ := rfl
  state := hs.trans (samplerState_of_lt false hroom).symm
  noTimeout := hto

/-- A cycle with room left for a bit is an active one, in one of the two waits. -/
theorem step_active (h : Sampled c d n (left + 1) s t) (hl : ParamsLegal s.params)
    (hroom : t.bitIndex < s.params.frameBits) (hr : (pinsNow t).rst = false) :
    t.state = waitState (highBefore c n) ∧
    step t = .next (endCycle (activeRule (countActive (clearDone t)))) ∧
    NoTimeoutWithin left (endCycle (activeRule (countActive (clearDone t)))) := by
  have hs := h.state.trans (samplerState_of_lt (highBefore c n) hroom)
  exact ⟨hs, step_activeRule_of_noTimeoutWithin (h.params ▸ hl) (by rw [hs]; exact isActive_waitState _) hr
    h.noTimeout⟩

/-- A rising cycle writes the next bit (R152). -/
theorem rising (h : Sampled c d n (left + 1) s t) (hl : ParamsLegal s.params)
    (hroom : t.bitIndex < s.params.frameBits) (hr : (pinsNow t).rst = false) (hrise : isRising c n = true)
    (hc : clockLevel t = c n) (hd : dataLevel t = d n) : ∃ u, Sampled c d (n + 1) left s u := by
  obtain ⟨hs, hstep, hto⟩ := h.step_active hl hroom hr
  obtain ⟨hhigh, hbefore⟩ : c n = true ∧ highBefore c n = false := by simpa [isRising_eq] using hrise
  rw [hbefore] at hs
  rw [activeRule_of_rising (s := countActive (clearDone t)) hs (hc.trans hhigh)] at hstep hto
  have hlen := h.index
  have hframe : ∀ j, (writeBit t.frame t.bitIndex (!dataLevel t)).testBit j =
      if j = t.bitIndex then !d n else t.frame.testBit j := by
    intro j
    rw [testBit_writeBit, hd]
  refine ⟨_, runsTo_snoc.mpr ⟨t, h.run, hstep⟩, (step_params hstep).trans h.params, ?_, ?_, ?_, ?_, hto⟩
  · simp [h.index, risingCycles_succ_of_rising hrise, Nat.add_assoc]
  · intro i u hi
    refine (hframe _).trans ?_
    rcases getElem?_risingCycles_succ hrise hi with ⟨hlt, hi⟩ | ⟨rfl, rfl⟩
    · rw [if_neg (by omega), h.written i u hi]
    · rw [if_pos (by omega)]
  · intro j hj
    refine (hframe j).trans ?_
    have hj' : j < s.bitIndex ∨ t.bitIndex + 1 ≤ j := hj
    rw [if_neg (by omega), h.kept j (by omega)]
  · simp [h.params, stateAfterSample_eq, highBefore, hhigh]

/-- Every other cycle writes no bit (R155). -/
theorem between (h : Sampled c d n (left + 1) s t) (hl : ParamsLegal s.params)
    (hroom : t.bitIndex < s.params.frameBits) (hr : (pinsNow t).rst = false) (hrise : isRising c n = false)
    (hc : clockLevel t = c n) : ∃ u, Sampled c d (n + 1) left s u := by
  obtain ⟨hs, hstep, hto⟩ := h.step_active hl hroom hr
  rw [isRising_eq, ← hc] at hrise
  rw [activeRule_of_not_rising (s := countActive (clearDone t)) hs hrise] at hstep hto
  rw [hc, ← isRising_eq] at hrise
  refine ⟨_, runsTo_snoc.mpr ⟨t, h.run, hstep⟩, (step_params hstep).trans h.params, ?_, ?_, h.kept, ?_, hto⟩
  · rw [risingCycles_succ_of_not_rising hrise]
    exact h.index
  · rw [risingCycles_succ_of_not_rising hrise]
    exact h.written
  · rw [highBefore, ← hc]
    exact (samplerState_of_lt _ hroom).symm

/-- Every cycle with room left for a bit is one of the two. -/
theorem next (h : Sampled c d n (left + 1) s t) (hl : ParamsLegal s.params)
    (hroom : t.bitIndex < s.params.frameBits) (hr : (pinsNow t).rst = false)
    (hc : clockLevel t = c n) (hd : dataLevel t = d n) : ∃ u, Sampled c d (n + 1) left s u := by
  cases hrise : isRising c n with
  | true => exact h.rising hl hroom hr hrise hc hd
  | false => exact h.between hl hroom hr hrise hc

/-- Where the lower bits of a word were in the frame and the wire levels of the next ones were on the data line, the
frame holds the lower bits of the word again (R81). -/
theorem frame_eq {word : Nat} (h : Sampled c d n left s t) (hframe : s.frame = word % 2 ^ s.bitIndex)
    (hdata : ∀ i u, (risingCycles c n)[i]? = some u → d u = !word.testBit (s.bitIndex + i)) :
    t.frame = word % 2 ^ t.bitIndex := by
  have hlen := h.index
  refine Nat.eq_of_testBit_eq fun j => ?_
  rw [Nat.testBit_mod_two_pow]
  by_cases hj : j < s.bitIndex ∨ t.bitIndex ≤ j
  · rw [h.kept j hj, hframe, Nat.testBit_mod_two_pow]
    have hiff : j < s.bitIndex ↔ j < t.bitIndex := by omega
    simp only [hiff]
  · obtain ⟨i, rfl⟩ := Nat.exists_eq_add_of_le (show s.bitIndex ≤ j by omega)
    have hi : i < (risingCycles c n).length := by omega
    have hu := List.getElem?_eq_getElem hi
    rw [h.written i _ hu, hdata i _ hu]
    simp [show s.bitIndex + i < t.bitIndex by omega]

end Sampled

/-- A run from BIT_WAIT_LOW_END whose every cycle has room left for a bit. -/
theorem sampled_of_levels {c d : Nat → Bool} {s : State} (hl : ParamsLegal s.params) (hs : s.state = .bitWaitLowEnd)
    (hroom : s.bitIndex < s.params.frameBits) (n : Nat) : ∀ {left : Nat}, NoTimeoutWithin (left + n) s →
    (∀ k < n, s.bitIndex + (risingCycles c k).length < s.params.frameBits) →
    (∀ k < n, ∀ u, runsTo k s u → clockLevel u = c k ∧ dataLevel u = d k ∧ (pinsNow u).rst = false) →
    ∃ t, Sampled c d n left s t := by
  induction n with
  | zero => exact fun hto _ _ => ⟨s, Sampled.start hs hroom hto⟩
  | succ n ih =>
    intro left hto hrooms hlevels
    have hto' : NoTimeoutWithin (left + 1 + n) s := by rwa [Nat.add_right_comm]
    obtain ⟨t, ht⟩ := ih hto' (fun k hk => hrooms k (Nat.lt_succ_of_lt hk))
      fun k hk => hlevels k (Nat.lt_succ_of_lt hk)
    obtain ⟨hc, hd, hr⟩ := hlevels n (Nat.lt_succ_self n) t ht.run
    exact ht.next hl (ht.index ▸ hrooms n (Nat.lt_succ_self n)) hr hc hd

/-- The same, where there is room for a bit in the last cycle. -/
theorem sampled_of_room {c d : Nat → Bool} {n : Nat} {s : State} (hl : ParamsLegal s.params)
    (hto : NoTimeoutWithin n s) (hs : s.state = .bitWaitLowEnd)
    (hroom : s.bitIndex + (risingCycles c (n - 1)).length < s.params.frameBits)
    (hlevels : ∀ k < n, ∀ u, runsTo k s u → clockLevel u = c k ∧ dataLevel u = d k ∧ (pinsNow u).rst = false) :
    ∃ t, Sampled c d n 0 s t := by
  refine sampled_of_levels hl hs (by omega) n (by rwa [Nat.zero_add]) (fun k hk => ?_) hlevels
  have hmono := length_risingCycles_mono c (Nat.le_sub_one_of_lt hk)
  omega

end Sys2Proof.Machine
end

section
/-!
The BitSampler's claims (42_bit_sampler.md R150 to R158).
-/
namespace Sys2Proof.Machine

/-- Settles O56: the run's own invariant, with the state written out. -/
theorem theRisingCyclesAreTheSamplePoints : Obligations.TheRisingCyclesAreTheSamplePoints := by
  intro s n c d hl hto hs hroom hlevels
  obtain ⟨t, ht⟩ := sampled_of_room hl hto hs hroom hlevels
  refine ⟨t, ht.run, ht.index, ht.written, ht.kept, ?_⟩
  simp only [ht.state, samplerState, waitState, highBefore_iff]

/-- Settles O29: after the last sample point the frame is the word, and DECODE delivers its result. -/
theorem aFrameOnTheWireIsReceivedInAnyRhythm : Obligations.AFrameOnTheWireIsReceivedInAnyRhythm := by
  intro s word n c d hl hto hword hs hindex hframe hlines hrst hrise hcount hdata
  obtain ⟨hsum, hsign, hvalue, hcheck, -, -, -, hsb, -⟩ := paramsLegal_facts hl
  obtain ⟨n, rfl⟩ : ∃ m, n = m + 1 := Nat.exists_eq_succ_of_ne_zero <| by
    rintro rfl
    rw [risingCycles_zero, List.length_nil] at hcount
    omega
  rw [Nat.add_sub_cancel] at hrise
  rw [← hindex] at hframe hcount hdata
  have hroom : s.bitIndex + (risingCycles c n).length < s.params.frameBits := by
    rw [risingCycles_succ_of_rising hrise, List.length_append, List.length_singleton] at hcount
    omega
  obtain ⟨t, ht⟩ := sampled_of_room hl hto hs hroom fun k hk u hu => by
    obtain ⟨hc, hd⟩ := hlines k hk u hu
    exact ⟨hc, hd, hrst k (Nat.le_of_lt hk) u hu⟩
  have hfull : t.bitIndex = s.params.frameBits := ht.index.trans hcount
  have hdecode : t.state = .decode := ht.state.trans (if_pos hfull)
  have hreceived : t.frame = word := by
    rw [ht.frame_eq hframe hdata, hfull, Nat.mod_eq_of_lt hword]
  have hstep := step_decode (ht.params ▸ hl) hdecode (hrst (n + 1) (Nat.le_refl _) t ht.run)
  refine ⟨_, runsTo_snoc.mpr ⟨t, ht.run, hstep⟩, hreceived, hfull, rfl, rfl, ?_⟩
  simp [ht.params, hreceived]

/-- Settles O28: such a cycle does not read the data line, and at its end only the data synchronizer differs. -/
theorem theDataLineMattersOnlyAtSamplePoints : Obligations.TheDataLineMattersOnlyAtSamplePoints := by
  intro s t other hstep hsample hsync
  obtain ⟨u, rfl, hother⟩ := step_withDataSync hstep (not_or.mpr ⟨hsample, hsync⟩) other
  exact ⟨_, hother, rfl⟩

/-- Settles O26: one branch of the rule for each level of the clock. -/
theorem bitWaitHighEndWaitsForALowClock : Obligations.BitWaitHighEndWaitsForALowClock := by
  intro s hto
  rw [exec_bitWaitHighEnd_of_noTimeout hto]
  refine ⟨fun hc => ?_, fun hc => ?_⟩
  · rw [bitWaitHighEndRule_of_low (s := countActive (clearDone s)) hc]
    rfl
  · rw [bitWaitHighEndRule_of_high (s := countActive (clearDone s)) hc]
    rfl

/-- Settles O27: one branch of the rule for each level of the clock, the high one with a bit. -/
theorem bitWaitLowEndSamplesTheNegatedDataLevel : Obligations.BitWaitLowEndSamplesTheNegatedDataLevel := by
  intro s hto
  rw [exec_bitWaitLowEnd_of_noTimeout hto]
  refine ⟨fun hc => ⟨writeBit s.frame s.bitIndex (!dataLevel s), ?_, fun j => testBit_writeBit _ _ j _⟩, fun hc => ?_⟩
  · rw [bitWaitLowEndRule_of_high (s := countActive (clearDone s)) hc]
    rfl
  · rw [bitWaitLowEndRule_of_low (s := countActive (clearDone s)) hc]
    rfl

end Sys2Proof.Machine
end

section
/-!
SUPPORT. The FrameDecoder: a DECODE cycle as one equation, the fields of a frame in any layout, the scaler's exactness
and the measurement that a result is read as (43_frame_decoder.md R170 to R179).
-/
namespace Sys2Proof.Machine

/-! ### A DECODE cycle -/

theorem exec_decode (s : State) : exec .decode s = .next (deliver (decodeResult s.params s.frame) s) := rfl

/-- A DECODE cycle completes, in one state. -/
theorem exec_decode_eq_next {s t : State} :
    exec .decode s = .next t ↔ t = deliver (decodeResult s.params s.frame) s := by
  rw [exec_decode, Host.Outcome.next.injEq, eq_comm]

theorem decodeResult_of_valid {p : Params} {frame : Nat} (h : checkField p frame = p.checkExpected) :
    decodeResult p frame = okResult p (signField p frame) (valueField p frame) := if_pos h

theorem decodeResult_of_invalid {p : Params} {frame : Nat} (h : checkField p frame ≠ p.checkExpected) :
    decodeResult p frame = invalidResult := if_neg h

/-- DECODE reports OK exactly for a frame that passes the check (R174, R175). -/
theorem decodeResult_status_eq_ok (p : Params) (frame : Nat) :
    (decodeResult p frame).status = .ok ↔ checkField p frame = p.checkExpected := by
  rcases decodeResult_cases p frame with ⟨hcheck, h⟩ | ⟨hcheck, h⟩ <;> simp [h, hcheck, okResult, invalidResult]

/-! ### The fields of a frame in any layout -/

theorem valueField_eq_mod (p : Params) (frame : Nat) : valueField p frame = frame % 2 ^ p.valueBits := by
  rw [valueField, bitSlice, Nat.pow_zero, Nat.div_one]

/-- The VALUE field is made of the value bits only (R172). -/
theorem valueField_congr {p : Params} {f f' : Nat} (h : ∀ i < p.valueBits, f.testBit i = f'.testBit i) :
    valueField p f = valueField p f' := by
  refine Nat.eq_of_testBit_eq fun i => ?_
  rw [valueField, valueField, testBit_bitSlice, testBit_bitSlice, Nat.zero_add]
  by_cases hi : i < p.valueBits
  · rw [h i hi]
  · simp [hi]

/-- A frame word is its value with the sign and the check above it. -/
theorem frameWord_eq_value_add (vw check : Nat) (sign : Bool) (value : Nat) :
    frameWord vw check sign value = value + (bitValue sign + 2 * check) * 2 ^ vw := by
  rw [frameWord, Nat.add_mul, Nat.add_assoc, Nat.pow_succ', Nat.mul_comm 2 check, Nat.mul_assoc]

section FrameFields

variable {p : Params} {value : Nat} (check : Nat) (sign : Bool) (hv : value < 2 ^ p.valueBits)
include hv

theorem frameWord_div_two_pow :
    frameWord p.valueBits check sign value / 2 ^ p.valueBits = bitValue sign + 2 * check := by
  rw [frameWord_eq_value_add, Nat.add_mul_div_right _ _ (Nat.two_pow_pos _), Nat.div_eq_of_lt hv, Nat.zero_add]

theorem valueField_frameWord : valueField p (frameWord p.valueBits check sign value) = value := by
  rw [valueField_eq_mod, frameWord_eq_value_add, Nat.add_mul_mod_self_right, Nat.mod_eq_of_lt hv]

theorem signField_frameWord : signField p (frameWord p.valueBits check sign value) = sign := by
  have hbit := bitValue_le_one sign
  refine bitValue_inj ?_
  rw [signField, testBit_eq_bitValue, frameWord_div_two_pow check sign hv]
  omega

theorem checkField_frameWord (hc : check < 2 ^ p.checkBits) :
    checkField p (frameWord p.valueBits check sign value) = check := by
  have hbit := bitValue_le_one sign
  have hhalf : (bitValue sign + 2 * check) / 2 = check := by omega
  rw [checkField, bitSlice, Nat.pow_succ, ← Nat.div_div_eq_div_mul, frameWord_div_two_pow check sign hv, hhalf,
    Nat.mod_eq_of_lt hc]

end FrameFields

/-! ### The scaler and the measurement -/

/-- Quotient and remainder stand for the exact scaled value (R178, R179). -/
theorem tripleValue_div_mod {scaleFactor : Nat} (hpos : 0 < scaleFactor) (sign : Bool) (magnitude : Nat) :
    tripleValue scaleFactor sign (magnitude / scaleFactor) (magnitude % scaleFactor) =
      scaledValue scaleFactor sign magnitude := by
  have hne : (scaleFactor : Rat) ≠ 0 := mt Rat.natCast_eq_zero_iff.mp (Nat.ne_of_gt hpos)
  have hdiv : ((magnitude / scaleFactor : Nat) : Rat) * scaleFactor + ((magnitude % scaleFactor : Nat) : Rat)
      = magnitude := by
    rw [← Rat.natCast_mul, ← Rat.natCast_add, Nat.div_add_mod']
  rw [tripleValue, scaledValue, ← hdiv, Rat.div_def, Rat.div_def, Rat.add_mul, ← Rat.div_def (_ * _),
    Rat.mul_div_cancel hne]

theorem measurement_of_ok {s : State} (h : s.result.status = .ok) :
    measurement s = some
      { sign := s.result.sign
        magnitude := s.result.magnitude
        scaled := tripleValue s.params.scaleFactor s.result.sign s.result.quotient s.result.remainder } := by
  simp [measurement, valid, h]

theorem measurement_of_not_ok {s : State} (h : s.result.status ≠ .ok) : measurement s = none := by
  simp [measurement, valid, h]

end Sys2Proof.Machine
end

section
/-!
The FrameDecoder's claims (43_frame_decoder.md R170 to R193).
-/
namespace Sys2Proof.Machine

/-- Settles O33: the row is that of the frame's fields, and it delivers what DECODE loads. -/
theorem decodeDoesWhatTheFrameClassSays : Obligations.DecodeDoesWhatTheFrameClassSays := by
  intro s i hp hd
  obtain ⟨c, b, v, hc, hv, hframe, rfl⟩ := decodeFrame_eq_ok.mp hd
  rw [exec_frameRow b hp hc hv, ← hframe, exec_decode]

/-- Settles O35: the magnitude is the VALUE field, and the INVALID result is one constant. -/
theorem theMagnitudeDependsOnTheValueBitsOnly : Obligations.TheMagnitudeDependsOnTheValueBitsOnly := by
  intro s s' t t' hparams ht ht'
  obtain rfl := exec_decode_eq_next.mp ht
  obtain rfl := exec_decode_eq_next.mp ht'
  simp only [deliver_result]
  refine ⟨fun h h' hbits => ?_, fun h h' => ?_⟩
  · rw [decodeResult_of_valid h, decodeResult_of_valid h', ← hparams]
    exact valueField_congr hbits
  · rw [decodeResult_of_invalid h, decodeResult_of_invalid h']
    exact ⟨rfl, rfl⟩

/-- Settles O36: each field of the frame word is the one it was made of. -/
theorem anEncodedMeasurementDecodesToItself : Obligations.AnEncodedMeasurementDecodesToItself := by
  intro s sgn mag hl hmag hframe
  obtain ⟨-, -, -, -, hce, -⟩ := paramsLegal_facts hl
  have hword : s.frame = frameWord s.params.valueBits s.params.checkExpected sgn mag := hframe
  have hresult : decodeResult s.params s.frame = okResult s.params sgn mag := by
    rw [hword, decodeResult_of_valid (checkField_frameWord _ sgn hmag hce), signField_frameWord _ sgn hmag,
      valueField_frameWord _ sgn hmag]
  refine ⟨_, exec_decode s, ?_⟩
  rw [deliver_result, hresult]
  exact ⟨rfl, rfl, rfl⟩

/-- Settles O37: quotient and remainder are those of a division by S, which is at least 1. -/
theorem theScalerIsExact : Obligations.TheScalerIsExact := by
  intro p sgn mag hl hmag
  obtain ⟨-, -, -, -, -, hpos, -⟩ := paramsLegal_facts hl
  obtain ⟨-, hquotient, hremainder, hlaws, -⟩ := resultFits_okResult hl sgn hmag
  obtain ⟨hsum, hlt⟩ := hlaws rfl
  exact ⟨rfl, rfl, scaledQuotient_le p mag, hquotient, hlt, hremainder, hsum, tripleValue_div_mod hpos sgn mag⟩

/-- Settles O38: a valid frame's result is read through the exact scaler, and INVALID is no measurement. -/
theorem aDecodedFrameReadsAsItsMeasurement : Obligations.ADecodedFrameReadsAsItsMeasurement := by
  intro s t hl ht
  obtain ⟨-, -, -, -, -, hpos, -⟩ := paramsLegal_facts hl
  obtain rfl := exec_decode_eq_next.mp ht
  have hok := decodeResult_status_eq_ok s.params s.frame
  refine ⟨fun h => ?_, fun h => measurement_of_not_ok (mt hok.mp h)⟩
  rw [measurement_of_ok (hok.mpr h), deliver_result, deliver_params, decodeResult_of_valid h, ← valueField_eq_mod,
    ← tripleValue_div_mod hpos]
  rfl

/-- Settles O30: the two results of DECODE, and the outputs of the state that delivers them. -/
theorem decodeLoadsTheResult : Obligations.DecodeLoadsTheResult := by
  intro s
  refine ⟨fun h => ?_, fun h => ?_, fun t ht => ?_⟩
  · rw [exec_decode, decodeResult_of_invalid h]
    rfl
  · rw [exec_decode, decodeResult_of_valid h, valueField_eq_mod]
    rfl
  · obtain rfl := exec_decode_eq_next.mp ht
    exact ⟨rfl, rfl, decide_eq_true_iff.trans (decodeResult_status_eq_ok s.params s.frame)⟩

/-- Settles O31: both rows deliver the OK result of their sign. -/
theorem validClassesLoadTheMeasurement : Obligations.ValidClassesLoadTheMeasurement :=
  fun _ _ => ⟨rfl, rfl⟩

/-- Settles O32: every row of the list delivers the INVALID result and drops its operands. -/
theorem invalidClassesLoadNoValue : Obligations.InvalidClassesLoadNoValue := by
  intro b v s i hi
  simp only [List.mem_cons, List.not_mem_nil, or_false] at hi
  rcases hi with rfl | rfl | rfl | rfl | rfl | rfl | rfl <;> rfl

/-- Settles O34: the result is a function of the parameters and the frame, and `deliver` writes nothing else. -/
theorem decodeReadsTheFrameAlone : Obligations.DecodeReadsTheFrameAlone := by
  intro s s' hparams hframe
  refine ⟨_, _, exec_decode s, exec_decode s', ?_, rfl, rfl, rfl⟩
  rw [deliver_result, deliver_result, hparams, hframe]

end Sys2Proof.Machine
end

section
/-!
SUPPORT. The host commands and IDLE (44_host_interface.md): what READ, NONE and IDLE are as cycles, where the request
makes a difference, and that a block in a state that is not reserved always gives a next state.
-/
namespace Sys2Proof.Machine

/-! ### The rows -/

theorem exec_read (s : State) : exec .read s = stateCycle true s := rfl

theorem exec_noCommand (s : State) : exec .noCommand s = stateCycle false s := rfl

theorem exec_idle (s : State) : exec .idle s = .next (idleCycle (pinsNow s).readReq s) := rfl

/-! ### IDLE -/

theorem stateCycle_of_idle (request : Bool) {s : State} (hs : s.state = .idle) :
    stateCycle request s = .next (idleCycle request s) := by
  simp [stateCycle, hs]

/-- A request in IDLE is accepted (R201). -/
theorem idleCycle_request (s : State) : idleCycle true s =
    { s with state := .syncWaitHigh, bitIndex := 0, frame := 0, gapCount := 0, timeoutCount := 0, done := false } := rfl

/-- IDLE without a request only lowers `done_r` (R38, R200). -/
theorem idleCycle_noRequest (s : State) : idleCycle false s = { s with done := false } := rfl

theorem busy_eq_false_iff (s : State) : (outputs s).busy = false ↔ s.state = .idle := by
  simp [outputs, busy]

theorem busy_eq_true_iff (s : State) : (outputs s).busy = true ↔ s.state ≠ .idle := by
  simp [outputs, busy]

/-- After a cycle of IDLE the block is busy exactly when there was a request (R39, R200). -/
theorem busy_idleCycle (request : Bool) {s : State} (hs : s.state = .idle) :
    (outputs (idleCycle request s)).busy = request := by
  cases request with
  | true => exact (busy_eq_true_iff _).mpr (by simp [idleCycle_request])
  | false => exact (busy_eq_false_iff _).mpr hs

/-! ### The other states -/

/-- Only IDLE looks at the request (R202). -/
theorem stateCycle_request_lost (request request' : Bool) {s : State} (hs : s.state ≠ .idle) :
    stateCycle request s = stateCycle request' s := by
  cases h : s.state with
  | idle => exact absurd h hs
  | _ => simp only [stateCycle, h]

theorem idle_or_isActive_or_decode {st : FsmState} (h : isReserved st = false) :
    st = .idle ∨ isActive st = true ∨ st = .decode := by
  cases st with
  | reserved6 | reserved7 => exact absurd h.symm Bool.false_ne_true
  | _ => decide

/-- The rule of every state that is not reserved gives a next state (R203). -/
theorem exists_stateCycle_eq_next (request : Bool) {s : State} (h : isReserved s.state = false) :
    ∃ t, stateCycle request s = .next t := by
  rcases idle_or_isActive_or_decode h with hs | ha | hs
  · exact ⟨_, stateCycle_of_idle request hs⟩
  · exact ⟨_, stateCycle_of_isActive request ha⟩
  · exact ⟨deliver (decodeResult s.params s.frame) s, by simp [stateCycle, hs, execDecode]⟩

/-- Under legal parameters only the reserved states stop the machine (R83, R233). -/
theorem exists_step_eq_next {s : State} (hl : ParamsLegal s.params) (h : isReserved s.state = false) :
    ∃ t, step s = .next t := by
  cases hr : (pinsNow s).rst with
  | true => exact ⟨_, step_eq_reset hl h hr⟩
  | false =>
    obtain ⟨u, hu⟩ := exists_stateCycle_eq_next (pinsNow s).readReq h
    exact ⟨endCycle u, by rw [step_eq_stateCycle hl h hr, hu, finish]⟩

/-- A sound block steps, and stays sound (R48). -/
theorem exists_sound_step {s : State} (hs : Sound s) : ∃ t, step s = .next t ∧ Sound t := by
  have ⟨hl, ⟨hres, _⟩, _⟩ := hs
  obtain ⟨t, ht⟩ := exists_step_eq_next hl hres
  exact ⟨t, ht, everyStepKeepsTheInvariant s t hs ht⟩

end Sys2Proof.Machine
end

section
/-!
The claims about the host interface (44_host_interface.md R200 to R204, R210).
-/
namespace Sys2Proof.Machine

/-- Settles O55: the invariant excludes the reserved states, so each of the n cycles gives a next sound state. -/
theorem aSoundBlockNeverStops : Obligations.ASoundBlockNeverStops := by
  intro s n
  induction n generalizing s with
  | zero => exact fun hs => ⟨s, runsTo_zero.mpr rfl, hs⟩
  | succ n ih =>
    intro hs
    obtain ⟨u, hstep, hu⟩ := exists_sound_step hs
    obtain ⟨t, hrun, ht⟩ := ih u hu
    exact ⟨t, runsTo_succ.mpr ⟨u, hstep, hrun⟩, ht⟩

/-- Settles O15: READ in IDLE is a cycle of IDLE with a request. -/
theorem readInIdleIsAccepted : Obligations.ReadInIdleIsAccepted := by
  intro s hs
  rw [exec_read, stateCycle_of_idle true hs, idleCycle_request]

/-- Settles O16: READ and NONE differ in the request alone. -/
theorem readOutsideIdleIsLost : Obligations.ReadOutsideIdleIsLost := by
  intro s hs
  rw [exec_read, exec_noCommand, stateCycle_request_lost true false hs]

/-- Settles O17: NONE is a cycle of the state without a request, which only IDLE would look at. -/
theorem noneActsOnTheRuleOfTheStateOnly : Obligations.NoneActsOnTheRuleOfTheStateOnly := by
  intro s
  rw [exec_noCommand]
  refine ⟨fun hs => ?_, fun hs => ?_, exists_stateCycle_eq_next false⟩
  · rw [stateCycle_of_idle false hs, idleCycle_noRequest]
  · rw [exec_stateRow, stateCycle_request_lost false _ hs]

/-- Settles O18: a cycle of IDLE reads the request and neither line. -/
theorem idleWaitsForARequest : Obligations.IdleWaitsForARequest := by
  intro s
  rw [exec_idle]
  refine ⟨fun hq => ?_, fun hq => ?_, fun hs => ⟨(busy_eq_false_iff s).mpr hs, fun t ht => ?_⟩⟩
  · rw [hq, idleCycle_request]
  · rw [hq, idleCycle_noRequest]
  · obtain rfl := Host.Outcome.next.inj ht
    exact busy_idleCycle _ hs

/-- Settles O51: the invariant puts `done` = 1 in IDLE, and acceptance leaves the result registers alone. -/
theorem theDoneCycleAcceptsTheNextRead : Obligations.TheDoneCycleAcceptsTheNextRead := by
  intro s hsound hdone hr hq
  have h := (sound_iff_soundParts s).mp hsound
  obtain ⟨hs, -⟩ := h.done hdone
  refine ⟨(busy_eq_false_iff s).mpr hs, _, step_accept h.legal hs hr hq, ?_⟩
  simp [busy_eq_true_iff]

end Sys2Proof.Machine
end

section
/-!
SUPPORT. Elaboration's checks as conditions (60_exceptions.md R233), active cycles counted from acceptance to the
timeout (R232), and cycles in which the clock stays at the level that the state waits at (R231).
-/
namespace Sys2Proof.Machine

/-! ### Elaboration -/

/-- A list of checks finds no problem exactly when its first check passes and the others find none. -/
theorem check_eq_none {c : Prop} [Decidable c] {e : ConfigError} {rest : Option ConfigError} :
    (if c then some e else rest) = none ↔ ¬ c ∧ rest = none := by
  by_cases h : c <;> simp [h]

theorem paramsLegal_iff (p : Params) : ParamsLegal p ↔
    (p.valueBits + p.signBits + p.checkBits = p.frameBits ∧ p.signBits = 1 ∧ 1 ≤ p.valueBits ∧ 1 ≤ p.checkBits ∧
      p.checkExpected < 2 ^ p.checkBits ∧ 1 ≤ p.scaleWidth ∧ 1 ≤ p.scaleFactor ∧
      p.scaleFactor ≤ 2 ^ p.scaleWidth - 1 ∧ (p.syncBits = 0 ∨ p.syncBits = 1) ∧ 1 ≤ p.syncStages ∧
      (p.gapThresholdDirect = none → 1 ≤ p.cyclesPerUs)) := by
  have hclock : ¬ (p.gapThresholdDirect = none ∧ p.cyclesPerUs < 1) ↔
      (p.gapThresholdDirect = none → 1 ≤ p.cyclesPerUs) := by
    rw [not_and, Nat.not_lt]
  simp only [ParamsLegal, configProblem, check_eq_none, hclock, and_true]
  constructor
  · rintro ⟨hsum, hsign, hfields, hce, hscale, hsb, hns, hk⟩
    exact ⟨by omega, by omega, by omega, by omega, by omega, by omega, by omega, by omega, by omega, by omega, hk⟩
  · rintro ⟨hsum, hsign, hvalue, hcheck, hce, hwidth, hscale, hfits, hsb, hns, hk⟩
    exact ⟨by omega, by omega, by omega, by omega, by omega, by omega, by omega, hk⟩

theorem elaborate_of_legal {p : Params} (h : ParamsLegal p) : elaborate p = .ok (State.resetOf p) := by
  rw [elaborate, show configProblem p = none from h]

theorem elaborate_of_problem {p : Params} {e : ConfigError} (h : configProblem p = some e) :
    elaborate p = .error e := by
  rw [elaborate, h]

theorem step_of_problem {s : State} {e : ConfigError} (h : configProblem s.params = some e) :
    step s = .refused (.configError e) := by
  rw [step, h]

/-- Under legal parameters a step faults in a reserved state and gives a next state in every other (R83, R233). -/
theorem step_ne_refused {s : State} (hl : ParamsLegal s.params) (r : Refusal) : step s ≠ .refused r := by
  intro h
  cases hres : isReserved s.state with
  | false =>
    obtain ⟨t, ht⟩ := exists_step_eq_next hl hres
    exact nomatch ht.symm.trans h
  | true =>
    have hs : s.state = .reserved6 ∨ s.state = .reserved7 := by
      cases hs : s.state <;> simp_all [isReserved]
    exact nomatch (reservedStatesFault.2 s hl hs).symm.trans h

/-! ### The timeout -/

/-- The cycle that the timeout ends, whatever its state rule is (R232). -/
theorem activeCycle_of_timeout (rule : State → State) {s : State} (hpos : 0 < s.params.stallTimeout)
    (hlast : s.timeoutCount + 1 = s.params.stallTimeout) : activeCycle rule s = stall s :=
  if_pos ((timeoutFires_iff s).mpr ⟨hpos, hlast⟩)

/-- An active cycle before the last one of the timeout counts itself (R36, R232). -/
theorem step_counts {s : State} (hl : ParamsLegal s.params) (ha : isActive s.state = true)
    (hr : (pinsNow s).rst = false) (hlt : s.timeoutCount + 1 < s.params.stallTimeout) :
    ∃ t, step s = .next t ∧ t.timeoutCount = s.timeoutCount + 1 := by
  have hf : timeoutFires s = false := (timeoutFires_eq_false_iff s).mpr (by omega)
  refine ⟨_, step_activeRule hl ha hr hf, ?_⟩
  rw [endCycle_timeoutCount, activeRule_timeoutCount (s := countActive (clearDone s)) ha]
  exact countedActive_of_pos (show 0 < s.params.stallTimeout by omega) s.timeoutCount

/-- n + 1 cycles after an acceptance in s, of which all but the acceptance were active, n are counted. -/
theorem counted_after_accept {s : State} (hl : ParamsLegal s.params) (hs : s.state = .idle)
    (hr : (pinsNow s).rst = false) (hq : (pinsNow s).readReq = true)
    (hactive : ∀ k, 1 ≤ k → k ≤ s.params.stallTimeout → ∀ u, runsTo k s u →
      isActive u.state = true ∧ (pinsNow u).rst = false) (n : Nat) :
    n + 1 ≤ s.params.stallTimeout →
    ∃ u, runsTo (n + 1) s u ∧ u.params = s.params ∧ u.timeoutCount = n := by
  induction n with
  | zero =>
    intro _
    have hstep := step_accept hl hs hr hq
    exact ⟨_, runsTo_one.mpr hstep, step_params hstep, rfl⟩
  | succ n ih =>
    intro hn
    obtain ⟨u, hrun, hp, hcount⟩ := ih (by omega)
    obtain ⟨ha, hru⟩ := hactive (n + 1) (by omega) (by omega) u hrun
    obtain ⟨t, hstep, ht⟩ := step_counts (hp ▸ hl) ha hru (by rw [hp]; omega)
    exact ⟨t, runsTo_snoc.mpr ⟨u, hrun, hstep⟩, (step_params hstep).trans hp, by rw [ht, hcount]⟩

/-! ### A stalled clock -/

theorem isActive_of_stallLevel {st : FsmState} {level : Bool} (h : stallLevel st = some level) :
    isActive st = true := by
  cases st <;> simp_all [stallLevel, isActive]

/-- At the level that the state waits at, the rule does nothing, or counts in SYNC_MEASURE (R135, R157, R231). -/
theorem activeRule_of_stallLevel {s : State} (h : stallLevel s.state = some (clockLevel s)) :
    activeRule s = s ∨ activeRule s = countHigh s := by
  rcases activeRule_cases (isActive_of_stallLevel h) with ⟨hs, hrule⟩ | ⟨hs, hrule⟩ | ⟨hs, hrule⟩ | ⟨hs, hrule⟩ <;>
    rw [hs] at h <;> rw [hrule] <;> have hc := (Option.some.inj h).symm
  · exact .inl (syncWaitHighRule_of_low hc)
  · exact .inr (syncMeasureRule_of_high hc)
  · exact .inl (bitWaitHighEndRule_of_high hc)
  · exact .inl (bitWaitLowEndRule_of_low hc)

/-- What a hanging acquisition leaves as it was. -/
def SameProgress (s t : State) : Prop :=
  t.params = s.params ∧ t.state = s.state ∧ t.result = s.result ∧ t.bitIndex = s.bitIndex ∧ t.frame = s.frame

theorem SameProgress.refl (s : State) : SameProgress s s := ⟨rfl, rfl, rfl, rfl, rfl⟩

theorem SameProgress.trans {s t u : State} (h : SameProgress s t) (h' : SameProgress t u) : SameProgress s u := by
  obtain ⟨hp, hs, hr, hi, hf⟩ := h
  obtain ⟨hp', hs', hr', hi', hf'⟩ := h'
  exact ⟨hp'.trans hp, hs'.trans hs, hr'.trans hr, hi'.trans hi, hf'.trans hf⟩

/-- Without a timeout, a cycle at the level that the state waits at makes no progress (R231). -/
theorem step_at_stallLevel {s : State} (hl : ParamsLegal s.params) (hto : s.params.stallTimeout = 0)
    (hlevel : stallLevel s.state = some (clockLevel s)) (hr : (pinsNow s).rst = false) :
    ∃ t, step s = .next t ∧ SameProgress s t ∧ t.done = false := by
  have hf : timeoutFires s = false := (timeoutFires_eq_false_iff s).mpr (by omega)
  refine ⟨_, step_activeRule hl (isActive_of_stallLevel hlevel) hr hf, ?_⟩
  rcases activeRule_of_stallLevel (s := countActive (clearDone s)) hlevel with hrule | hrule <;> rw [hrule]
  · exact ⟨⟨rfl, rfl, rfl, rfl, rfl⟩, rfl⟩
  · exact ⟨⟨rfl, rfl, rfl, rfl, rfl⟩, rfl⟩

/-- The same for every number of cycles. -/
theorem run_at_stallLevel {s : State} {level : Bool} (hl : ParamsLegal s.params) (hto : s.params.stallTimeout = 0)
    (hlevel : stallLevel s.state = some level) (n : Nat) :
    (∀ k < n, ∀ u, runsTo k s u → clockLevel u = level ∧ (pinsNow u).rst = false) →
    ∃ t, runsTo n s t ∧ SameProgress s t ∧ (1 ≤ n → t.done = false) := by
  induction n with
  | zero => exact fun _ => ⟨s, runsTo_zero.mpr rfl, .refl s, nofun⟩
  | succ n ih =>
    intro hheld
    obtain ⟨u, hrun, hsame, -⟩ := ih fun k hk => hheld k (Nat.lt_succ_of_lt hk)
    obtain ⟨hc, hr⟩ := hheld n (Nat.lt_succ_self n) u hrun
    have ⟨hp, hs, _⟩ := hsame
    obtain ⟨t, hstep, hnext, hdone⟩ := step_at_stallLevel (hp ▸ hl) (hp ▸ hto) (by rw [hs, hc, hlevel]) hr
    exact ⟨t, runsTo_snoc.mpr ⟨u, hrun, hstep⟩, hsame.trans hnext, fun _ => hdone⟩

end Sys2Proof.Machine
end

section
/-!
The claims about errors, the stall timeout and priorities (60_exceptions.md R231 to R236).
-/
namespace Sys2Proof.Machine

/-- Settles O40: after TO active cycles TO - 1 are counted, and the timeout ends the last of them. -/
theorem theTimeoutFiresInItsCycleAfterAcceptance : Obligations.TheTimeoutFiresInItsCycleAfterAcceptance := by
  intro s hl hpos hs hr hq hactive
  have hcounted := counted_after_accept hl hs hr hq hactive
  obtain ⟨n, hn⟩ : ∃ n, s.params.stallTimeout = n + 1 := Nat.exists_eq_add_of_le' hpos
  constructor
  · intro k hk hle
    obtain ⟨k, rfl⟩ := Nat.exists_eq_add_of_le' hk
    obtain ⟨u, hrun, -, hcount⟩ := hcounted k hle
    exact ⟨u, hrun, hcount⟩
  · obtain ⟨u, hrun, hp, hcount⟩ := hcounted n (Nat.le_of_eq hn.symm)
    obtain ⟨ha, hru⟩ := hactive (n + 1) (by omega) (Nat.le_of_eq hn.symm) u hrun
    have hf : timeoutFires u = true := (timeoutFires_iff u).mpr (by rw [hp, hcount]; omega)
    have hstep := step_stall (hp ▸ hl) ha hru hf
    rw [hn]
    exact ⟨_, runsTo_snoc.mpr ⟨u, hrun, hstep⟩, rfl, rfl, rfl⟩

/-- Settles O42, by induction on the cycles at the level that the state waits at. -/
theorem aStalledClockHangsWithoutATimeout : Obligations.AStalledClockHangsWithoutATimeout := by
  intro s level n hl hto hlevel hheld
  obtain ⟨t, hrun, ⟨-, hs, hresult, hindex, hframe⟩, hdone⟩ := run_at_stallLevel hl hto hlevel n hheld
  have hbusy : t.state ≠ .idle := by
    intro hidle
    rw [← hs, hidle] at hlevel
    cases hlevel
  exact ⟨t, hrun, hs, (busy_eq_true_iff t).mpr hbusy, hresult, hindex, hframe, hdone⟩

/-- Settles O43: each check as a condition, and what elaboration and the step make of the first that fails. -/
theorem anIllegalConfigurationHasNoInstance : Obligations.AnIllegalConfigurationHasNoInstance := by
  refine ⟨paramsLegal_iff, fun p => ?_, fun s e => ⟨fun h => ?_, step_of_problem⟩⟩
  · cases hp : configProblem p with
    | none => exact .inl ⟨hp, elaborate_of_legal hp⟩
    | some e => exact .inr ⟨fun hl => (nomatch hp.symm.trans hl), e, elaborate_of_problem hp, rfl⟩
  · cases hp : configProblem s.params with
    | none => exact absurd h (step_ne_refused hp _)
    | some e' =>
      rw [step_of_problem hp] at h
      cases h
      rfl

/-- Settles O44. The row of an active state holds the timeout check itself, so the last clause is true of every cycle
without reset. -/
theorem resetThenTimeoutThenTheStateRule : Obligations.ResetThenTimeoutThenTheStateRule := by
  intro s t hstep
  obtain ⟨hl, hres, -⟩ := step_cases hstep
  refine ⟨fun hr => ?_, fun hr ha hpos hlast => ?_, fun hr _ => ?_⟩
  · obtain rfl := Host.Outcome.next.inj ((step_eq_reset hl hres hr).symm.trans hstep)
    exact ⟨rfl, rfl, rfl, rfl, rfl⟩
  · have hf := (timeoutFires_iff s).mpr ⟨hpos, hlast⟩
    obtain rfl := Host.Outcome.next.inj ((step_stall hl ha hr hf).symm.trans hstep)
    exact ⟨rfl, rfl, rfl, rfl, rfl⟩
  · rw [step_eq_stateCycle hl hres hr, ← exec_stateRow] at hstep
    exact finish_eq_next hstep

/-- Settles O39: each of the four rows is an active cycle. -/
theorem theStallTimeoutReplacesTheStateRule : Obligations.TheStallTimeoutReplacesTheStateRule := by
  intro s i hpos hlast hi
  have hstall := fun rule =>
    congrArg (Host.Outcome.next (φ := Fault) (ρ := Refusal)) (activeCycle_of_timeout rule hpos hlast)
  simp only [List.mem_cons, List.not_mem_nil, or_false] at hi
  rcases hi with rfl | rfl | rfl | rfl
  · exact hstall syncWaitHighRule
  · exact hstall syncMeasureRule
  · exact hstall bitWaitHighEndRule
  · exact hstall bitWaitLowEndRule

end Sys2Proof.Machine
end

section
/-!
The claims about reset (70_reset_and_hazards.md R260): what the RESET row writes, and what a cycle with `rst` = 1 leaves
behind.
-/
namespace Sys2Proof.Machine

/-- The RESET row is the reset of the registers, whatever its bit q is (R84, R260). -/
theorem exec_reset (q : Bool) (s : State) : exec (.reset q) s = .next (resetRegisters s) := rfl

/-- What the host sees of a block in IDLE that has no result and did not just deliver one (R38 to R41). -/
theorem outputs_of_idle_noResult {s : State} (hs : s.state = .idle) (hd : s.done = false)
    (hres : s.result = noResult) :
    (outputs s).busy = false ∧ (outputs s).done = false ∧ (outputs s).valid = false ∧ (outputs s).status = 0b00 := by
  obtain ⟨hstatus, hvalid⟩ := outputs_status_valid (st := .none) (congrArg Result.status hres)
  exact ⟨(busy_eq_false_iff s).mpr hs, hd, hvalid, hstatus⟩

/-- Settles O13: the row writes the reset registers, each with the value R260 gives it, and no other field. -/
theorem resetWritesTheResetValues : Obligations.ResetWritesTheResetValues := by
  intro q s
  rw [exec_reset, resetRegisters, noResult]

/-- Settles O14: the registers are those the RESET row wrote, because the end of the cycle only shifts the
synchronizers, as it does in every cycle. -/
theorem aResetCycleLeavesTheResetState : Obligations.AResetCycleLeavesTheResetState := by
  intro s hl hres hr
  have hstep := step_eq_reset hl hres hr
  obtain ⟨hparams, hclk, hdata, -⟩ := step_wires hstep
  obtain ⟨hbusy, hdone, hvalid, hstatus⟩ := outputs_of_idle_noResult (s := endCycle (resetRegisters s)) rfl rfl rfl
  exact ⟨_, hstep, rfl, rfl, rfl, rfl, rfl, rfl, rfl, hbusy, hdone, hvalid, hstatus, hclk, hdata, hparams⟩

end Sys2Proof.Machine
end
